-- ==== Sys2Proof/Word.lean ====
section
/-! DEFINITION. The words, numbers and moments the CQ-4 spec is written in: bytes, 32-bit cycle numbers, 64-byte
records, and the numbers of channels, rings and stations. -/

namespace Sys2Proof

/-- One byte of a record, an entry or a frame. -/
abbrev Byte := BitVec 8

/-- A 32-bit register of the register window (R162), a tag or a detail. -/
abbrev Word := BitVec 32

/-- A cycle number: 32 bits, wrapping (R52). -/
abbrev Cycle := BitVec 32

/-- A host address (R171). -/
abbrev Addr := BitVec 64

/-- The 64 bytes of a transaction, control or root record, byte `k` being bits `8k+7 … 8k` (R162: little-endian). -/
abbrev Record := BitVec 512

/-- A channel, CH0 to CH3. -/
abbrev ChanId := Fin 4

/-- A transaction ring, TR0 to TR7. -/
abbrev RingId := Fin 8

/-- A completion ring, CR0 to CR3. -/
abbrev CrId := Fin 4

/-- A station that has a record: station address `i + 1`, that is 1 to 62 (R18). -/
abbrev StationId := Fin 62

/-- One of the 14 index fields of the status area, in the order of R166: the control ring consumer index, the CCR
producer index, the producer indices of CR0 to CR3, the consumer indices of TR0 to TR7. -/
abbrev FieldId := Fin 14

/-- A moment of the part's time base, in units of 125 ns (R3: the bit times are 8, 4, 2 and 1 of them). -/
abbrev Moment := Nat

end Sys2Proof
end

