-- ==== Sys2Proof/Syntax.lean ====
section
/-! DEFINITION. The commands of the CQ-4: one constructor for each row of spec/opcode_table.json, with its operands.

Commands that come from outside the part carry the moment they reach it. The part's own timers carry none: they take
place at the moment their rule fixes (log entry 1). -/

namespace Sys2Proof

/-- A whole frame as the receiver reports it (R2): its delimiter's type, the decoded header fields (R172), the payload
bytes, and whether the check was good. -/
inductive RxFrame where
  /-- a frame with the command start delimiter -/
  | command (header : BitVec 32) (payload : List Byte) (checkGood : Bool)
  /-- a response frame (R8): address echo, kind (ACK 0, NAK 1, HOLD 2), toggle echo, length, spare bit -/
  | response (address : BitVec 6) (kind : BitVec 2) (toggle : Bool) (length : BitVec 6) (spare : Bool)
      (payload : List Byte) (checkGood : Bool)
  /-- an alert frame (R9): station address, priority, length, code, spare bits -/
  | alert (address : BitVec 6) (priority : BitVec 3) (length : BitVec 4) (code : Byte) (spare : BitVec 3)
      (payload : List Byte) (checkGood : Bool)
  deriving DecidableEq, Repr

/-- A ring that receives entries: CR0 to CR3 or the control completion ring. -/
inductive EntryRing where
  | cr (c : CrId)
  | ccr
  deriving DecidableEq, Repr

/-- A read of the memory port (R171). -/
inductive ReadOp where
  | root
  | record (ring : RingId)
  | control
  deriving DecidableEq, Repr

/-- The commands. -/
inductive Instr where
  /-- POWER_ON_RESET (R170) -/
  | powerOnReset (t : Moment)
  /-- CONTROLLER_RESET (R170): a CONTROL write with RESET 1; its ENABLE bit is discarded (R163) -/
  | controllerReset (t : Moment) (enable : Bool)
  /-- RESET_END (R170) -/
  | resetEnd (t : Moment)
  /-- ENABLE_SET (R163): a CONTROL write with RESET 0 and ENABLE 1 -/
  | enableSet (t : Moment)
  /-- ENABLE_CLEAR (R163): a CONTROL write with RESET 0 and ENABLE 0 -/
  | enableClear (t : Moment)
  /-- INT_STATUS_CLEAR (R169) -/
  | intStatusClear (t : Moment) (value : Word)
  /-- INT_MASK_WRITE (R169) -/
  | intMaskWrite (t : Moment) (value : Word)
  /-- REGISTER_WRITE (R162): any write to the register window, `bytes` bytes wide -/
  | registerWrite (t : Moment) (offset : BitVec 6) (bytes : Nat) (value : Word)
  /-- POST_TRANSACTION_RING (R70) -/
  | postTransactionRing (t : Moment) (ring : RingId) (index : BitVec 12)
  /-- POST_CONTROL_RING (R147) -/
  | postControlRing (t : Moment) (index : BitVec 12)
  /-- FREE_COMPLETION_RING (R136) -/
  | freeCompletionRing (t : Moment) (ring : CrId) (index : BitVec 12)
  /-- FREE_CCR (R142) -/
  | freeCcr (t : Moment) (index : BitVec 12)
  /-- ROOT_READ_DATA (R164) -/
  | rootReadData (t : Moment) (data : Record)
  /-- ROOT_READ_ERROR (R164) -/
  | rootReadError (t : Moment)
  /-- RECORD_READ_DATA (R72) -/
  | recordReadData (t : Moment) (ring : RingId) (data : Record)
  /-- RECORD_READ_ERROR (R84) -/
  | recordReadError (t : Moment) (ring : RingId)
  /-- CONTROL_READ_DATA (R148) -/
  | controlReadData (t : Moment) (data : Record)
  /-- CONTROL_READ_ERROR (R148) -/
  | controlReadError (t : Moment)
  /-- READ_COMPLETION_LIMIT_EXPIRY (R171) -/
  | readCompletionLimitExpiry (op : ReadOp)
  /-- ENTRY_WRITE_END (R137) -/
  | entryWriteEnd (t : Moment) (ring : EntryRing)
  /-- ENTRY_WRITE_ERROR (R140) -/
  | entryWriteError (t : Moment) (ring : CrId)
  /-- CCR_WRITE_ERROR (R142) -/
  | ccrWriteError (t : Moment)
  /-- STATUS_WRITE_END (R167) -/
  | statusWriteEnd (t : Moment) (field : FieldId)
  /-- STATUS_WRITE_ERROR (R167) -/
  | statusWriteError (t : Moment) (field : FieldId)
  /-- RESERVATION_GRANT (R76) -/
  | reservationGrant (t : Moment) (ring : RingId)
  /-- CCR_RESERVATION_GRANT (R148) -/
  | ccrReservationGrant (t : Moment)
  /-- LINE_ACTIVITY_START (R2) -/
  | lineActivityStart (t : Moment) (ch : ChanId)
  /-- LINE_QUIET (R2) -/
  | lineQuiet (t : Moment) (ch : ChanId)
  /-- FRAME_REPORT (R2) -/
  | frameReport (t : Moment) (ch : ChanId) (frame : RxFrame)
  /-- MALFORMED_FRAME_REPORT (R2) -/
  | malformedFrameReport (t : Moment) (ch : ChanId)
  /-- NON_FRAME_ACTIVITY (R2) -/
  | nonFrameActivity (t : Moment) (ch : ChanId)
  /-- RESPONSE_WINDOW_EXPIRY (R13) -/
  | responseWindowExpiry (ch : ChanId)
  /-- TRAILING_GAP_ELAPSED (R15) -/
  | trailingGapElapsed (ch : ChanId)
  /-- QUIET_FOUND (R38) -/
  | quietFound (ch : ChanId)
  /-- CHATTER_QUIET_FOUND (R42) -/
  | chatterQuietFound (ch : ChanId)
  /-- QUIET_WAIT_LIMIT_EXPIRY (R39) -/
  | quietWaitLimitExpiry (ch : ChanId)
  /-- CHATTER_LIMIT_EXPIRY (R42) -/
  | chatterLimitExpiry (ch : ChanId)
  /-- OVERLONG_RESPONSE (R41) -/
  | overlongResponse (ch : ChanId)
  /-- OVERLONG_ALERT_STRETCH (R113) -/
  | overlongAlertStretch (ch : ChanId)
  /-- FRAME_SENT (R40) -/
  | frameSent (ch : ChanId)
  /-- CYCLE_START (R53) -/
  | cycleStart (ch : ChanId)
  /-- SCHEDULE_SWAP (R61) -/
  | scheduleSwap (ch : ChanId)
  /-- HOLD_EXPIRY (R26) -/
  | holdExpiry (ch : ChanId) (station : StationId)
  /-- DEADLINE_PASSED (R88) -/
  | deadlinePassed (ring : RingId)
  /-- WINDOW_START (R54) -/
  | windowStart (ch : ChanId)
  /-- NOP (R160) -/
  | nop (t : Moment)
  /-- RING_SETUP (R78) -/
  | ringSetup (t : Moment)
  /-- RING_START (R79) -/
  | ringStart (t : Moment)
  /-- RING_STOP (R80) -/
  | ringStop (t : Moment)
  /-- RING_FLUSH (R83) -/
  | ringFlush (t : Moment)
  /-- CRING_SETUP (R132) -/
  | cringSetup (t : Moment)
  /-- CHANNEL_CONFIG (R34) -/
  | channelConfig (t : Moment)
  /-- CHANNEL_ENABLE (R44) -/
  | channelEnable (t : Moment)
  /-- CHANNEL_DISABLE (R45) -/
  | channelDisable (t : Moment)
  /-- CHANNEL_RESET (R46) -/
  | channelReset (t : Moment)
  /-- SCHEDULE_WRITE (R58) -/
  | scheduleWrite (t : Moment)
  /-- SCHEDULE_COMMIT (R59) -/
  | scheduleCommit (t : Moment)
  /-- SCHEDULE_CANCEL (R63) -/
  | scheduleCancel (t : Moment)
  /-- STATION_SET (R29) -/
  | stationSet (t : Moment)
  /-- STATION_READ (R32) -/
  | stationRead (t : Moment)
  /-- STATION_RELEASE (R30) -/
  | stationRelease (t : Moment)
  /-- FILTER_WRITE (R124) -/
  | filterWrite (t : Moment)
  /-- FILTER_BINS (R125) -/
  | filterBins (t : Moment)
  /-- FILTER_MODE (R126) -/
  | filterMode (t : Moment)
  /-- ALERT_MAP (R127) -/
  | alertMap (t : Moment)
  /-- COUNTERS_READ (R161) -/
  | countersRead (t : Moment)
  deriving DecidableEq, Repr

end Sys2Proof
end

