-- ==== Sys2Proof/Config.lean ====
section
/-! DEFINITION. What the spec fixes once for the whole part: constants of the time base, of the line and of the
register window. The spec leaves no result of a command undefined, so there is no opaque value here. -/

namespace Sys2Proof.Config

/-- The units of 125 ns in one microsecond (R3). -/
def ticksPerMicrosecond : Nat := 8

/-- The read completion limit of 50 ms (R171), in units of 125 ns. -/
def readCompletionLimit : Nat := 50 * 1000 * ticksPerMicrosecond

/-- A command frame without payload, in bits (R5). -/
def commandBits : Nat := 64

/-- A response frame without payload, in bits (R5). -/
def responseBits : Nat := 48

/-- The longest response frame, in bits (R5, R41). -/
def longestResponse : Nat := 304

/-- The longest alert frame, in bits (R5, R48). -/
def longestAlert : Nat := 120

/-- Where a staging queue is full (R71). -/
def stagingLimit : Nat := 4

/-- Where the parked-command list is full (R148). -/
def parkedLimit : Nat := 8

/-- Where consecutive failures saturate (R24). -/
def failureCap : Nat := 15

/-- Where channel counters and dropped counts saturate (00 section 6). -/
def countCap : Nat := 2 ^ 32 - 1

/-- Where lost-alert counts and repeat counts saturate (00 section 6, R143). -/
def shortCap : Nat := 65535

/-- The IDENT register: vendor 0x3B71, part 0x0C4, revision 1 (R162). -/
def ident : Word := 0x3B710C41

end Sys2Proof.Config
end

