-- ==== Sys2Proof/Machine/State.lean ====
section
/-! DEFINITION. The state of the CQ-4 as plain data, block by block (00 section 4), with its reset values. -/

namespace Sys2Proof.Machine

/-! ## Outcomes -/

/-- The reasons a command could stop the machine. There is none: what the spec calls a fault (a halt cause, a FAULTED
ring, a STUCK channel, a pending event) is state of the part, and every command ends in a next state. -/
inductive Fault where
  deriving DecidableEq, Repr

/-- The reasons a command could have no meaning. -/
inductive Refusal where
  /-- raised by `exec` for a command that has no meaning yet (safe: the model stops); no arm raises it -/
  | notModelled (mnemonic : String)
  deriving DecidableEq, Repr

/-! ## Host port (spec file 10) -/

/-- The part states (R162, R163). -/
inductive PartState where
  | disabled | starting | running | halted | resetting
  deriving DecidableEq, Repr

/-- The halt causes (R162, R165). -/
inductive HaltCause where
  | none | rootRead | rootInvalid | controlRead | ccrWrite | statusWrite
  deriving DecidableEq, Repr

/-- The reset causes (R162, R170). -/
inductive ResetCause where
  | none | power | controller
  deriving DecidableEq, Repr

/-- The root record (R176). -/
structure RootRecord where
  controlBase : Addr
  controlSize : Nat
  ccrBase : Addr
  ccrSize : Nat
  statusAddr : Addr
  deriving DecidableEq, Repr

/-- Where STARTING stands (R164). -/
inductive StartPhase where
  /-- no start in progress -/
  | none
  /-- the root record read at the root address taken in step 1, issued at `issued`, is in flight (step 2) -/
  | reading (address : Nat) (issued : Moment)
  /-- the record passed its checks and `left` of the two status area writes have not completed (step 4) -/
  | publishing (root : RootRecord) (left : Nat)
  deriving DecidableEq, Repr

/-- What the host port reports, and to whom, when a status area write completes (R167). -/
inductive Purpose where
  /-- nothing waits on the report -/
  | plain
  /-- one of the two writes of STARTING (R164) -/
  | start
  /-- the publication of a posted entry (R137 step 3) -/
  | publish (ring : EntryRing)
  /-- the RING_SETUP in hand completes (R78) -/
  | ringSetup
  /-- the RING_FLUSH parked on the ring completes, with its skipped count (R83) -/
  | flush (ring : RingId) (skipped : Nat)
  /-- the CRING_SETUP in hand completes, with the dropped count it noted (R132) -/
  | cringSetup (dropped : Nat)
  deriving DecidableEq, Repr

/-- A request to publish an index (R167). -/
structure StatusReq where
  value : Nat
  purpose : Purpose
  deriving DecidableEq, Repr

/-- The writes of one status area field: the one in progress and those behind it, oldest first (R167). -/
structure FieldQueue where
  inProgress : Option StatusReq := none
  waiting : List StatusReq := []
  deriving DecidableEq, Repr

/-- A memory port operation issued before a reset and left to end (R170). -/
inductive PortOp where
  | rootRead (address : Nat) (issued : Moment)
  | recordRead (ring : RingId) (address : Nat) (issued : Moment)
  | controlRead (address : Nat) (issued : Moment)
  | entryWrite (ring : EntryRing) (address : Nat) (bytes : List Byte)
  | statusWrite (field : FieldId) (address : Nat) (bytes : List Byte)
  deriving DecidableEq, Repr

/-- The host port: the register window's storage, the part state, the writer of the status area. -/
structure HostPort where
  part : PartState := .disabled
  haltCause : HaltCause := .none
  resetCause : ResetCause := .power
  enable : Bool := false
  intStatus : BitVec 6 := 0
  intMask : BitVec 6 := 0
  rootLo : Word := 0
  rootHi : Word := 0
  /-- the status area address kept by STARTING (R164); 0 before it, DESIGN CHOICE (log entry 4), unsafe -/
  statusAddr : Addr := 0
  start : StartPhase := .none
  fields : Vector FieldQueue 14 := Vector.replicate 14 {}
  /-- operations issued before a reset and not yet ended (R170); empty outside RESETTING -/
  drain : List PortOp := []
  deriving DecidableEq, Repr

/-! ## Station table (spec file 02) -/

/-- Presence (R19). -/
inductive Presence where
  | unknown | present | quarantined
  deriving DecidableEq, Repr

/-- A station record (R18). -/
structure StationRec where
  presence : Presence := .unknown
  /-- the next toggle -/
  toggle : Bool := false
  /-- absent, or the expiry cycle -/
  hold : Option Cycle := none
  /-- consecutive failures -/
  failures : Nat := 0
  /-- the response window in µs -/
  respWindow : Nat := 20
  /-- the default retry limit -/
  retryLimit : Nat := 2
  /-- the default hold limit -/
  holdLimit : Nat := 3
  /-- the failure limit -/
  failLimit : Nat := 4
  /-- the attempt-in-flight mark -/
  mark : Bool := false
  deriving DecidableEq, Repr

/-! ## Transaction rings (spec file 05) -/

/-- The operations of a record that can be on the line (R10). -/
inductive Operation where
  | read | write | exchange
  deriving DecidableEq, Repr

/-- The states of a transaction ring (R68). -/
inductive RingState where
  | disabled | stopped | active | stopping | faulted
  deriving DecidableEq, Repr

/-- A transaction record as read from its 64 bytes (R73, R173). -/
structure TransRecord where
  /-- the operation field, 0 to 3 -/
  operation : Nat
  probe : Bool
  retryFlag : Bool
  holdFlag : Bool
  deadlineFlag : Bool
  station : Nat
  length : Nat
  retryLimit : Nat
  holdLimit : Nat
  register : BitVec 12
  tag : Word
  deadline : Cycle
  payload : List Byte
  deriving DecidableEq, Repr

/-- The validity verdict of a staged record (R74). -/
inductive Validity where
  | valid
  | invalid (code : Nat)
  deriving DecidableEq, Repr

/-- A staged record: its slot, the copy of the record, its verdict (R72). -/
structure Staged where
  slot : Nat
  record : TransRecord
  validity : Validity
  deriving DecidableEq, Repr

/-- The states of a head (R75). -/
inductive HeadState where
  | staged | onLine | pendingRetry | completing
  deriving DecidableEq, Repr

/-- A head's last failure (R75): NONE or GARBLED. -/
inductive Failure where
  | none | garbled
  deriving DecidableEq, Repr

/-- The reservation field of a head (R75, R76). -/
inductive Reservation where
  | none | requested | held
  deriving DecidableEq, Repr

/-- The transaction statuses (R109, R174). -/
inductive TransStatus where
  | ok | naked | timeout | garbled | heldOut | quarantined | expired | aborted | lineFault | flushed | invalid
  deriving DecidableEq, Repr

/-- A final status with what its entry takes from the moment it was assigned (R109): the NAK reason or the data of the
response, and the channel's cycle number and window index. -/
structure Final where
  status : TransStatus
  reason : Byte := 0
  data : List Byte := []
  cycle : Cycle
  window : Nat
  deriving DecidableEq, Repr

/-- A head context (R75); the validity verdict stands with the staged record. -/
structure Head where
  state : HeadState := .staged
  attempts : Nat := 0
  holds : Nat := 0
  retryLimit : Option Nat := none
  holdLimit : Option Nat := none
  lastFailure : Option Failure := none
  reservation : Reservation := .none
  final : Option Final := none
  /-- the attempt's window of the last attempt: cycle number and window index (R94) -/
  window : Option (Cycle × Nat) := none
  deriving DecidableEq, Repr

/-- A ring's setup but for its base (R68, R78). -/
structure Binding where
  size : Nat
  channel : ChanId
  cls : Fin 8
  cring : CrId
  deriving DecidableEq, Repr

/-- A record read in flight: the slot (R71), its address and the moment of issue (R171). -/
structure SlotRead where
  slot : Nat
  address : Nat
  issued : Moment
  deriving DecidableEq, Repr

/-- A transaction ring (R68). -/
structure TransRing where
  state : RingState := .disabled
  base : Addr := 0
  binding : Option Binding := none
  /-- the host post index -/
  post : Nat := 0
  /-- the fetch index -/
  fetch : Nat := 0
  /-- the consumer index -/
  consumer : Nat := 0
  /-- the read in flight -/
  reading : Option SlotRead := none
  staging : List Staged := []
  head : Option Head := none
  deriving DecidableEq, Repr

/-! ## Completion unit (spec file 08) -/

/-- The kinds of completion entry (R174). -/
inductive EntryKind where
  | transaction | alert | alertsLost | control | event
  deriving DecidableEq, Repr

/-- A completion entry by its fields (R174); every field a kind does not use is 0. -/
structure Entry where
  kind : EntryKind
  source : Nat := 0
  status : Nat := 0
  presence : Nat := 0
  tag : Word := 0
  detail : Word := 0
  attempts : Nat := 0
  holds : Nat := 0
  station : Nat := 0
  length : Nat := 0
  cycle : Cycle := 0
  window : Nat := 0
  payload : List Byte := []
  deriving DecidableEq, Repr

/-- Whom the completion unit reports an entry done to (R137 step 5). An entry of the first three sources holds a
reservation, one of the last three a claim (R130). -/
inductive EntrySource where
  /-- the head of a transaction ring -/
  | transaction (ring : RingId)
  /-- the record in hand -/
  | inHand
  /-- the parked command that holds this copy of its record -/
  | parked (record : Record)
  | event | alert | alertsLost
  deriving DecidableEq, Repr

/-- An entry in a posting queue. -/
structure Posting where
  entry : Entry
  source : EntrySource
  deriving DecidableEq, Repr

/-- Where a ring's posting stands (R137). -/
inductive Stage where
  /-- no posting in progress -/
  | idle
  /-- the write of the oldest entry is in progress (step 1) -/
  | writing
  /-- the entry is written and its producer index's publication has not been reported (steps 3 and 4) -/
  | publishing (source : EntrySource)
  deriving DecidableEq, Repr

/-- The slots of a completion ring or of the CCR (R130). `size` 0 stands for the spec's "none". -/
structure Slots where
  base : Addr := 0
  size : Nat := 0
  producer : Nat := 0
  consumer : Nat := 0
  reservations : Nat := 0
  posting : List Posting := []
  stage : Stage := .idle
  deriving DecidableEq, Repr

/-- The states of a completion ring (R130). -/
inductive CringState where
  | disabled | active | faulted
  deriving DecidableEq, Repr

/-- A completion ring, CR0 to CR3 (R130). -/
structure Cring where
  state : CringState := .disabled
  slots : Slots := {}
  /-- the waiter list: the rings whose heads wait, oldest first -/
  waiters : List RingId := []
  /-- the lost-alert count -/
  lost : Nat := 0
  /-- the dropped count -/
  dropped : Nat := 0
  deriving DecidableEq, Repr

/-- The control completion ring (R142). -/
structure Ccr where
  /-- false while the CCR is unset -/
  active : Bool := false
  slots : Slots := {}
  /-- the control engine's request waits for room -/
  requested : Bool := false
  /-- a grant has been sent to the control engine and has not arrived -/
  granted : Bool := false
  deriving DecidableEq, Repr

/-- A grant sent to a head and not yet arrived (R76). `void` marks one whose head has cancelled meanwhile. -/
structure Grant where
  ring : RingId
  void : Bool := false
  deriving DecidableEq, Repr

/-! ## Control engine (spec file 09) -/

/-- The phases of the control engine (R146). -/
inductive EnginePhase where
  | idle | reserving | reserved | reading | acting | posting
  deriving DecidableEq, Repr

/-- The control statuses (R153, R174). -/
inductive ControlStatus where
  | done | doneLate | cancelled | busy | badState | invalidParam | unknownCommand
  deriving DecidableEq, Repr

/-- What the target notes when it parks a command: a commit's late mark (R59), a flush's noted post index (R83). -/
inductive ParkNote where
  | none
  | commit (late : Bool)
  | flush (noted : Nat)
  deriving DecidableEq, Repr

/-- A command on the parked-command list (R152). -/
structure Parked where
  record : Record
  /-- true in state WAITING, false in state POSTING -/
  waiting : Bool
  note : ParkNote
  deriving DecidableEq, Repr

/-- The kinds of pending event (R143). -/
inductive EventKind where
  | ringFault | cringFault | channelStuck
  deriving DecidableEq, Repr

/-- A pending event (R143). -/
structure Event where
  kind : EventKind
  object : Nat
  repeats : Nat
  deriving DecidableEq, Repr

/-- The control engine (R146). `size` 0 stands for the spec's "unset". -/
structure Engine where
  base : Addr := 0
  size : Nat := 0
  /-- the host post index -/
  post : Nat := 0
  /-- the read index -/
  read : Nat := 0
  phase : EnginePhase := .idle
  /-- the address of the read in flight (R146, R171) -/
  address : Nat := 0
  /-- the moment the read in flight was issued (R171) -/
  issued : Moment := 0
  inHand : Option Record := none
  /-- the target has taken the command in hand and answers when a status area write completes (R78, R132) -/
  answering : Bool := false
  parked : List Parked := []
  /-- the pending event set, oldest first -/
  events : List Event := []
  deriving DecidableEq, Repr

/-! ## Channels and schedules (spec files 01, 03, 04) -/

/-- The channel states (R33). -/
inductive ChanState where
  | off | idle | quietWait | sending | awaiting | receiving | listening | chatter | stuck
  deriving DecidableEq, Repr

/-- The bus rates, in Mbit/s (R3). -/
inductive BusRate where
  | r1 | r2 | r4 | r8
  deriving DecidableEq, Repr

/-- The kinds of window (R49). -/
inductive WindowKind where
  | transact | alert | quiet
  deriving DecidableEq, Repr

/-- A window (R49): its duration in µs, its kind, its class set (bit `n` is class `n`). -/
structure Window where
  duration : Nat
  kind : WindowKind
  classes : BitVec 8
  deriving DecidableEq, Repr

/-- The CALL state of a window (R56). -/
inductive CallState where
  | due | sent | notDue
  deriving DecidableEq, Repr

/-- The current window record (R51). -/
structure WindowRec where
  cycle : Cycle
  index : Nat
  kind : WindowKind
  classes : BitVec 8
  ends : Moment
  call : CallState
  deriving DecidableEq, Repr

/-- A window instance (R51) with the moment it ends. -/
structure WindowId where
  cycle : Cycle
  index : Nat
  ends : Moment
  deriving DecidableEq, Repr

/-- A channel's selection (R33, R37). -/
inductive Selection where
  /-- the record in `slot` at the head of `ring` -/
  | transaction (ring : RingId) (slot : Nat)
  /-- the CALL of a window instance -/
  | call (window : WindowId)
  /-- a selection left empty by a head that completed while the channel waited (R38, R39) -/
  | left
  deriving DecidableEq, Repr

/-- The kinds of attempt (R36). -/
inductive AttemptKind where
  | transaction | broadcast | call
  deriving DecidableEq, Repr

/-- The verdict of an attempt (R14), with what it hands over (R15). -/
inductive Verdict where
  | validAck (data : List Byte)
  | validNak (reason : Byte)
  | validHold (quanta : Byte)
  | stale | garbled | none
  deriving DecidableEq, Repr

/-- The attempt record (R36), with the moments the verdict depends on. -/
structure Attempt where
  kind : AttemptKind
  ring : Option RingId
  station : Option StationId
  toggle : Bool
  resync : Bool
  /-- the expected length of R10 -/
  expected : Option Nat
  /-- the window current when the frame began (R94); for a CALL, its ALERT window -/
  window : WindowId
  /-- the response window in µs, read when the command frame ended -/
  respWindow : Option Nat := none
  /-- the moment the frame ended -/
  opened : Moment := 0
  /-- the moment the response's activity started -/
  started : Moment := 0
  provisional : Option Verdict := none
  /-- the moment the response ended (R14) -/
  respEnd : Option Moment := none
  deriving DecidableEq, Repr

/-- A command or CALL frame on the line (R6, R7): its header fields and payload. -/
structure CommandFrame where
  station : BitVec 6
  /-- READ 0, WRITE 1, EXCHANGE 2, CALL 3 -/
  operation : BitVec 2
  toggle : Bool
  resync : Bool
  length : BitVec 6
  register : BitVec 12
  payload : List Byte
  deriving DecidableEq, Repr

/-- What a LISTENING channel keeps (R48, R112, R114): the ALERT window instance, whether that window has ended, the activity
start of the stretch being heard, until both its quiet and its report have been taken (log entry 24), and whether the stretch
last heard has been counted in ALERT_GARBLED. -/
structure Listening where
  window : WindowId
  ended : Bool
  stretch : Option Moment
  counted : Bool := false
  deriving DecidableEq, Repr

/-- A line activity that R65 accounts: the end of the window it belongs to, and the ends of the later windows that have
ended while it lasted. -/
structure Activity where
  ownEnd : Moment
  crossed : List Moment
  deriving DecidableEq, Repr

/-- The eight channel counters (R33). -/
structure Counters where
  attempts : Nat := 0
  timeouts : Nat := 0
  garbled : Nat := 0
  naks : Nat := 0
  holds : Nat := 0
  overruns : Nat := 0
  windowsLost : Nat := 0
  alertGarbled : Nat := 0
  deriving DecidableEq, Repr

/-- A channel unit (R33). -/
structure Channel where
  state : ChanState := .off
  rate : BusRate := .r1
  /-- the gap in bit times -/
  gap : Nat := 16
  /-- the quiet-wait limit in µs -/
  quietLimit : Nat := 200
  /-- the chatter limit in µs -/
  chatterLimit : Nat := 2000
  operational : List Window := []
  /-- the pending list: 32 slots -/
  slots : Vector (Option Window) 32 := Vector.replicate 32 none
  /-- the cycle counter -/
  cycle : Cycle := 0
  counters : Counters := {}
  selection : Option Selection := none
  attempt : Option Attempt := none
  /-- the last quiet transition -/
  lastQuiet : Moment := 0
  /-- the pair is active, as the receiver last reported (R2) -/
  lineActive : Bool := false
  /-- when the receiver last reported an activity start (R2) -/
  activeSince : Moment := 0
  /-- the stretch last started has not yet produced its frame, malformed frame or non-frame report (R2) -/
  unreported : Bool := false
  /-- the current window record, absent while OFF -/
  window : Option WindowRec := none
  /-- the start and the length of the current cycle (R51) -/
  cycleStart : Moment := 0
  cycleLength : Moment := 0
  /-- when QUIET_WAIT or CHATTER was entered (R39, R42) -/
  since : Moment := 0
  /-- when the frame being sent ends (R40) -/
  sendEnds : Moment := 0
  /-- the frame being sent -/
  tx : Option CommandFrame := none
  listening : Option Listening := none
  activity : Option Activity := none
  /-- the last-granted ring (R93) -/
  lastGranted : RingId := 7
  deriving DecidableEq, Repr

/-! ## Alert unit (spec file 07) -/

/-- The action of a filter table entry (R119). `unset` stands in an entry that is not valid (R117: "zero"). -/
inductive FilterAction where
  | unset | accept | reject
  deriving DecidableEq, Repr

/-- A filter table entry (R119). Station 0 is ANY (R175). -/
structure FilterEntry where
  valid : Bool := false
  channels : BitVec 4 := 0
  station : Nat := 0
  code : Byte := 0
  mask : Byte := 0
  action : FilterAction := .unset
  override : Option (Fin 8) := none
  deriving DecidableEq, Repr

/-- The filter modes (R118). -/
inductive FilterMode where
  | dropAll | passAll | filter | filterInverse
  deriving DecidableEq, Repr

/-- An entry of the priority map (R117). -/
inductive Destination where
  | cr (c : CrId)
  | discard
  deriving DecidableEq, Repr

/-- The alert unit (R117). -/
structure AlertUnit where
  table : Vector FilterEntry 16 := Vector.replicate 16 {}
  /-- the hash bins, bin `n` being bit `n` -/
  bins : BitVec 64 := 0
  modes : Vector FilterMode 4 := Vector.replicate 4 .dropAll
  map : Vector Destination 8 := Vector.replicate 8 .discard
  deriving DecidableEq, Repr

/-! ## The part -/

/-- The part: its seven blocks and its time base. -/
structure Dev where
  now : Moment := 0
  port : HostPort := {}
  engine : Engine := {}
  rings : Vector TransRing 8 := Vector.replicate 8 {}
  crings : Vector Cring 4 := Vector.replicate 4 {}
  ccr : Ccr := {}
  grants : List Grant := []
  channels : Vector Channel 4 := Vector.replicate 4 {}
  stations : Vector (Vector StationRec 62) 4 := Vector.replicate 4 (Vector.replicate 62 {})
  alert : AlertUnit := {}
  deriving DecidableEq, Repr

/-- The machine: the queue of waiting commands, the image of what the part has written into host memory (address and
byte, addresses strictly rising), and the part. -/
structure State where
  pending : List Instr
  mem : List Host.Cell
  dev : Dev
  deriving DecidableEq, Repr

/-- The machine right after power-on reset (R170 and the reset values of R18, R33, R68, R117, R130, R146): DISABLED with
reset cause POWER, the queue empty, nothing written into host memory. -/
def State.reset : State := { pending := [], mem := [], dev := {} }

end Sys2Proof.Machine
end

