-- ==== Sys2Proof/Machine/Formats.lean ====
section
/-! DEFINITION. The layouts of spec file 10: fields of 64-byte records, the transaction record, the root record, the
completion entry and its payloads; and the checks of a record that read the record alone (R74, R164). -/

namespace Sys2Proof.Machine

/-! ## Fields of a record -/

/-- The field of `width` bits whose lowest bit is `bit` (R162: bits count from 0, bytes are little-endian). -/
def field (r : Record) (bit width : Nat) : Nat :=
  (r.toNat >>> bit) % 2 ^ width

/-- Byte `k` of a record. -/
def byteAt (r : Record) (k : Nat) : Nat :=
  field r (8 * k) 8

/-- One bit of a record as a flag. -/
def flagAt (r : Record) (bit : Nat) : Bool :=
  field r bit 1 == 1

/-- The bits that a list of fields (lowest bit, width) covers. -/
def usedBits (fields : List (Nat × Nat)) : Nat :=
  fields.foldl (fun m f => m ||| ((2 ^ f.2 - 1) <<< f.1)) 0

/-- Every bit of the record outside the given fields is 0. -/
def reservedZero (r : Record) (fields : List (Nat × Nat)) : Bool :=
  (r.toNat ||| usedBits fields) == usedBits fields

/-- A ring size the spec allows: a power of two from 8 to 4096 (R78, R132, R164). -/
def sizeOk (n : Nat) : Bool :=
  [8, 16, 32, 64, 128, 256, 512, 1024, 2048, 4096].contains n

/-- A multiple of 64 (R78, R132, R164). -/
def aligned (a : Addr) : Bool :=
  a.toNat % 64 == 0

/-- `k` as a number below `n`, if it is one. -/
def toFin (n k : Nat) : Option (Fin n) :=
  if h : k < n then some ⟨k, h⟩ else none

/-- The record of a station address: 1 to 62 have one, 0 and 63 have none (R18). -/
def stationId (address : Nat) : Option StationId :=
  if address = 0 then none else toFin 62 (address - 1)

/-- The address of a station that has a record. -/
def stationAddress (i : StationId) : Nat :=
  i.val + 1

/-! ## The transaction record (R73, R74, R173) -/

/-- Byte `k` of the payload and those after it, `n` bytes in all. -/
def recordBytes (r : Record) (k n : Nat) : List Byte :=
  (List.range n).map fun i => BitVec.ofNat 8 (byteAt r (k + i))

/-- The fields of R173 that are not reserved. -/
def transFields : List (Nat × Nat) :=
  [(0, 6), (8, 6), (16, 6), (24, 4), (32, 5), (48, 12), (64, 32), (96, 32), (256, 256)]

/-- A transaction record read from its 64 bytes (R173). -/
def TransRecord.ofRecord (r : Record) : TransRecord where
  operation := field r 0 2
  probe := flagAt r 2
  retryFlag := flagAt r 3
  holdFlag := flagAt r 4
  deadlineFlag := flagAt r 5
  station := field r 8 6
  length := field r 16 6
  retryLimit := field r 24 4
  holdLimit := field r 32 5
  register := BitVec.ofNat 12 (field r 48 12)
  tag := BitVec.ofNat 32 (field r 64 32)
  deadline := BitVec.ofNat 32 (field r 96 32)
  payload := recordBytes r 32 32

/-- The operation a record asks for; operation 3 never leaves the validity check (R74). -/
def TransRecord.op (t : TransRecord) : Operation :=
  if t.operation = 0 then .read else if t.operation = 1 then .write else .exchange

/-- The nine checks of R74 in order; the first that fails gives the invalid code. -/
def validate (t : TransRecord) (reservedOk : Bool) : Validity :=
  if t.operation = 3 then .invalid 1
  else if t.station = 63 then .invalid 2
  else if t.length > 32 then .invalid 3
  else if t.op ≠ .write ∧ t.length = 0 then .invalid 4
  else if t.station = 0 ∧ t.op ≠ .write then .invalid 5
  else if t.station = 0 ∧ t.probe then .invalid 6
  else if ¬ reservedOk then .invalid 7
  else if t.retryFlag ∧ t.retryLimit > 7 then .invalid 8
  else if t.holdFlag ∧ t.holdLimit > 15 then .invalid 9
  else .valid

/-- A record as it is staged from a read of slot `slot` (R72). -/
def stage (slot : Nat) (r : Record) : Staged where
  slot := slot
  record := TransRecord.ofRecord r
  validity := validate (TransRecord.ofRecord r) (reservedZero r transFields)

/-! ## The root record (R164, R176) -/

/-- The fields of R176 that are not reserved. -/
def rootFields : List (Nat × Nat) :=
  [(0, 64), (64, 16), (128, 64), (192, 16), (256, 64)]

/-- The root record read from its 64 bytes. -/
def RootRecord.ofRecord (r : Record) : RootRecord where
  controlBase := BitVec.ofNat 64 (field r 0 64)
  controlSize := field r 64 16
  ccrBase := BitVec.ofNat 64 (field r 128 64)
  ccrSize := field r 192 16
  statusAddr := BitVec.ofNat 64 (field r 256 64)

/-- The checks of step 3 of R164. -/
def rootOk (r : Record) : Bool :=
  let root := RootRecord.ofRecord r
  aligned root.controlBase && aligned root.ccrBase && sizeOk root.controlSize && sizeOk root.ccrSize &&
    aligned root.statusAddr && reservedZero r rootFields

/-! ## Completion entries (R174) -/

/-- The lowest `k` bytes of `n`, little-endian. -/
def leBytes (n k : Nat) : List Byte :=
  (List.range k).map fun i => BitVec.ofNat 8 (n >>> (8 * i))

/-- A payload in its field of `n` bytes, the rest zero. -/
def padded (n : Nat) (bytes : List Byte) : List Byte :=
  (bytes ++ List.replicate n 0).take n

def EntryKind.code : EntryKind → Nat
  | .transaction => 1
  | .alert => 2
  | .alertsLost => 3
  | .control => 4
  | .event => 5

def TransStatus.code : TransStatus → Nat
  | .ok => 0
  | .naked => 1
  | .timeout => 2
  | .garbled => 3
  | .heldOut => 4
  | .quarantined => 5
  | .expired => 6
  | .aborted => 7
  | .lineFault => 8
  | .flushed => 9
  | .invalid => 10

def ControlStatus.code : ControlStatus → Nat
  | .done => 0
  | .doneLate => 1
  | .cancelled => 2
  | .busy => 3
  | .badState => 4
  | .invalidParam => 5
  | .unknownCommand => 6

def Presence.code : Presence → Nat
  | .unknown => 1
  | .present => 2
  | .quarantined => 3

def failureCode : Option Failure → Nat
  | none => 0
  | some .none => 1
  | some .garbled => 2

def EventKind.code : EventKind → Nat
  | .ringFault => 1
  | .cringFault => 2
  | .channelStuck => 3

def ChanState.code : ChanState → Nat
  | .off => 0
  | .idle => 1
  | .quietWait => 2
  | .sending => 3
  | .awaiting => 4
  | .receiving => 5
  | .listening => 6
  | .chatter => 7
  | .stuck => 8

def PartState.code : PartState → Nat
  | .disabled => 0
  | .starting => 1
  | .running => 2
  | .halted => 3
  | .resetting => 4

def HaltCause.code : HaltCause → Nat
  | .none => 0
  | .rootRead => 1
  | .rootInvalid => 2
  | .controlRead => 3
  | .ccrWrite => 4
  | .statusWrite => 5

def ResetCause.code : ResetCause → Nat
  | .none => 0
  | .power => 1
  | .controller => 2

/-- One byte of an entry. -/
def byte (n : Nat) : Byte :=
  BitVec.ofNat 8 n

/-- The 64 bytes of an entry (R174). -/
def Entry.bytes (e : Entry) : List Byte :=
  [byte e.kind.code, byte e.source, byte e.status, byte e.presence] ++ leBytes e.tag.toNat 4 ++ leBytes e.detail.toNat 4 ++
    [byte e.attempts, byte e.holds, byte e.station, byte e.length] ++ leBytes e.cycle.toNat 4 ++ [byte e.window] ++
    List.replicate 11 0 ++ padded 32 e.payload

/-- The 16-byte payload of a STATION_READ (R174). -/
def StationRec.bytes (r : StationRec) : List Byte :=
  [byte r.presence.code, byte r.toggle.toNat, byte r.hold.isSome.toNat, byte r.failures, byte r.respWindow,
    byte r.retryLimit, byte r.holdLimit, byte r.failLimit, byte r.mark.toNat, 0, 0, 0] ++
    leBytes ((r.hold.getD 0).toNat) 4

/-- The 32-byte payload of a COUNTERS_READ, in the order of R161. -/
def Counters.bytes (c : Counters) : List Byte :=
  leBytes c.attempts 4 ++ leBytes c.timeouts 4 ++ leBytes c.garbled 4 ++ leBytes c.naks 4 ++ leBytes c.holds 4 ++
    leBytes c.overruns 4 ++ leBytes c.windowsLost 4 ++ leBytes c.alertGarbled 4

end Sys2Proof.Machine
end

