-- ==== Sys2Proof/Machine/Commands.lean ====
section
/-! DEFINITION. Control records (R150, R154 to R161, R175): the 21 commands with their parameters, and the check of a
record, which reads the record alone. -/

namespace Sys2Proof.Machine

/-- What STATION_SET writes (R29). -/
structure StationSetting where
  respWindow : Nat
  retryLimit : Nat
  holdLimit : Nat
  failLimit : Nat
  /-- the presence: QUARANTINED if true, UNKNOWN if false -/
  quarantined : Bool
  deriving DecidableEq, Repr

/-- A control command whose parameters are in range. -/
inductive Command where
  | nop
  | ringSetup (ring : RingId) (base : Addr) (binding : Binding)
  | ringStart (ring : RingId)
  | ringStop (ring : RingId)
  | ringFlush (ring : RingId)
  | cringSetup (cring : CrId) (base : Addr) (size : Nat)
  | channelConfig (ch : ChanId) (rate : BusRate) (gap quietLimit chatterLimit : Nat)
  | channelEnable (ch : ChanId) (start : Option Cycle)
  | channelDisable (ch : ChanId)
  | channelReset (ch : ChanId)
  | scheduleWrite (ch : ChanId) (start : Nat) (windows : List Window)
  | scheduleCommit (ch : ChanId) (length : Nat) (switch : Cycle)
  | scheduleCancel (ch : ChanId)
  | stationSet (ch : ChanId) (station : StationId) (setting : StationSetting)
  | stationRead (ch : ChanId) (station : StationId)
  | stationRelease (ch : ChanId) (station : StationId)
  | filterWrite (index : Fin 16) (entry : FilterEntry)
  | filterBins (bins : BitVec 64)
  | filterMode (ch : ChanId) (mode : FilterMode)
  | alertMap (map : Vector Destination 8)
  | countersRead (ch : ChanId) (clear : Bool)
  deriving DecidableEq, Repr

/-- The outcome of the check of R150. -/
inductive Checked where
  | pass (command : Command)
  | fail (status : ControlStatus)
  deriving DecidableEq, Repr

/-! ## Record fields -/

/-- The command code, byte 0 (R175). -/
def recordCode (r : Record) : Nat :=
  byteAt r 0

/-- The tag, bytes 4 to 7 (R175). -/
def recordTag (r : Record) : Word :=
  BitVec.ofNat 32 (field r 32 32)

/-- The field of the bytes `k` to `k + n - 1`, as lowest bit and width. -/
def bytesField (k n : Nat) : Nat × Nat :=
  (8 * k, 8 * n)

/-- The parameter fields of each command (R175). The entries of a SCHEDULE_WRITE beyond its count are reserved. -/
def parameterFields (r : Record) : Nat → List (Nat × Nat)
  | 2 => [bytesField 8 6, bytesField 16 8]
  | 3 | 4 | 5 | 9 | 10 | 13 => [bytesField 8 1]
  | 6 => [bytesField 8 1, bytesField 12 2, bytesField 16 8]
  | 7 => [bytesField 8 3, bytesField 12 4]
  | 8 => [bytesField 8 1, (72, 1), bytesField 12 4]
  | 11 => [bytesField 8 3, bytesField 12 (4 * min (byteAt r 10) 6)]
  | 12 => [bytesField 8 2, bytesField 12 4]
  | 14 => [bytesField 8 7]
  | 15 | 16 => [bytesField 8 2]
  | 17 => [bytesField 8 1, (72, 2), (80, 4), bytesField 11 5]
  | 18 | 20 => [bytesField 8 8]
  | 19 => [bytesField 8 2]
  | 21 => [bytesField 8 1, (72, 1)]
  | _ => []

/-- No reserved bit of the record is 1 (R150 check 2): byte 0 is the code, bytes 4 to 7 the tag. -/
def controlReservedZero (r : Record) : Bool :=
  reservedZero r ([bytesField 0 1, bytesField 4 4] ++ parameterFields r (recordCode r))

/-! ## Parameters -/

def busRate : Nat → Option BusRate
  | 1 => some .r1
  | 2 => some .r2
  | 4 => some .r4
  | 8 => some .r8
  | _ => none

def windowKind : Nat → Option WindowKind
  | 1 => some .transact
  | 2 => some .alert
  | 3 => some .quiet
  | _ => none

def filterModeOf : Nat → Option FilterMode
  | 1 => some .dropAll
  | 2 => some .passAll
  | 3 => some .filter
  | 4 => some .filterInverse
  | _ => none

def destination (n : Nat) : Option Destination :=
  if n = 4 then some .discard else (toFin 4 n).map .cr

/-- A window is well formed (R49). -/
def Window.wf (w : Window) : Bool :=
  decide (10 ≤ w.duration) && decide (w.duration ≤ 65535) && ((w.kind == .transact) == (w.classes != 0))

/-- The window entry at byte `k` (R175), if it is well formed. -/
def windowAt (r : Record) (k : Nat) : Option Window := do
  let kind ← windowKind (byteAt r (k + 2))
  let w : Window := { duration := field r (8 * k) 16, kind := kind, classes := BitVec.ofNat 8 (byteAt r (k + 3)) }
  if w.wf then some w else none

/-- The gap's duration at a rate is at most the quiet-wait limit (R34): `gap × bit time ≤ limit`, in 125 ns. -/
def gapWithin (rate : BusRate) (gap limit : Nat) : Bool :=
  let bit := match rate with
    | .r1 => 8
    | .r2 => 4
    | .r4 => 2
    | .r8 => 1
  decide (gap * bit ≤ limit * Config.ticksPerMicrosecond)

/-- `n` if it lies in the inclusive range. -/
def inRange (lo hi n : Nat) : Option Nat :=
  if lo ≤ n ∧ n ≤ hi then some n else none

/-- A ring size of R78 and R132. -/
def sizeParam (n : Nat) : Option Nat :=
  if sizeOk n then some n else none

/-- A ring base of R78 and R132. -/
def baseParam (r : Record) : Option Addr :=
  let a : Addr := BitVec.ofNat 64 (field r 128 64)
  if aligned a then some a else none

def ringParam (r : Record) : Option RingId := toFin 8 (byteAt r 8)

def chanParam (r : Record) : Option ChanId := toFin 4 (byteAt r 8)

def stationParam (r : Record) : Option StationId := stationId (byteAt r 9)

def parseRingSetup (r : Record) : Option Command := do
  let ring ← ringParam r
  let base ← baseParam r
  let size ← sizeParam (field r 96 16)
  let channel ← toFin 4 (byteAt r 9)
  let cls ← toFin 8 (byteAt r 10)
  let cring ← toFin 4 (byteAt r 11)
  some (.ringSetup ring base { size := size, channel := channel, cls := cls, cring := cring })

def parseCringSetup (r : Record) : Option Command := do
  let cring ← toFin 4 (byteAt r 8)
  let base ← baseParam r
  let size ← sizeParam (field r 96 16)
  some (.cringSetup cring base size)

def parseChannelConfig (r : Record) : Option Command := do
  let ch ← chanParam r
  let rate ← busRate (byteAt r 9)
  let gap ← inRange 4 63 (byteAt r 10)
  let quiet ← inRange 10 10000 (field r 96 16)
  let chatter ← inRange 100 65535 (field r 112 16)
  if gapWithin rate gap quiet then some (.channelConfig ch rate gap quiet chatter) else none

def parseChannelEnable (r : Record) : Option Command := do
  let ch ← chanParam r
  some (.channelEnable ch (if flagAt r 72 then some (BitVec.ofNat 32 (field r 96 32)) else none))

def parseScheduleWrite (r : Record) : Option Command := do
  let ch ← chanParam r
  let count ← inRange 1 6 (byteAt r 10)
  let start ← inRange 0 (32 - count) (byteAt r 9)
  let windows ← (List.range count).mapM fun i => windowAt r (12 + 4 * i)
  some (.scheduleWrite ch start windows)

def parseScheduleCommit (r : Record) : Option Command := do
  let ch ← chanParam r
  let length ← inRange 1 32 (byteAt r 9)
  some (.scheduleCommit ch length (BitVec.ofNat 32 (field r 96 32)))

def parseStationSet (r : Record) : Option Command := do
  let ch ← chanParam r
  let st ← stationParam r
  let resp ← inRange 2 255 (byteAt r 10)
  let retry ← inRange 0 7 (byteAt r 11)
  let hold ← inRange 0 15 (byteAt r 12)
  let fail ← inRange 1 15 (byteAt r 13)
  let presence := byteAt r 14
  if presence = 1 ∨ presence = 3 then
    some (.stationSet ch st { respWindow := resp, retryLimit := retry, holdLimit := hold, failLimit := fail,
                              quarantined := presence == 3 })
  else none

/-- The station byte of a FILTER_WRITE: 0 for ANY, 1 to 62 for a station (R175). -/
def filterStation (n : Nat) : Option Nat :=
  inRange 0 62 n

def filterActionOf : Nat → Option FilterAction
  | 1 => some .accept
  | 2 => some .reject
  | _ => none

def parseFilterWrite (r : Record) : Option Command := do
  let index ← toFin 16 (byteAt r 8)
  if flagAt r 72 then
    let station ← filterStation (byteAt r 11)
    let action ← filterActionOf (byteAt r 14)
    let override ← if flagAt r 73 then (toFin 8 (byteAt r 15)).map some else some none
    some (.filterWrite index
      { valid := true, channels := BitVec.ofNat 4 (field r 80 4), station := station,
        code := BitVec.ofNat 8 (byteAt r 12), mask := BitVec.ofNat 8 (byteAt r 13), action := action,
        override := override })
  else some (.filterWrite index {})

def parseFilterMode (r : Record) : Option Command := do
  let ch ← chanParam r
  let mode ← filterModeOf (byteAt r 9)
  some (.filterMode ch mode)

def parseAlertMap (r : Record) : Option Command := do
  let d0 ← destination (byteAt r 8)
  let d1 ← destination (byteAt r 9)
  let d2 ← destination (byteAt r 10)
  let d3 ← destination (byteAt r 11)
  let d4 ← destination (byteAt r 12)
  let d5 ← destination (byteAt r 13)
  let d6 ← destination (byteAt r 14)
  let d7 ← destination (byteAt r 15)
  some (.alertMap #v[d0, d1, d2, d3, d4, d5, d6, d7])

/-- The command a record names, with its parameters, when they are in range (R150 check 3, R154 to R161). -/
def parseCommand (r : Record) : Nat → Option Command
  | 1 => some .nop
  | 2 => parseRingSetup r
  | 3 => (ringParam r).map .ringStart
  | 4 => (ringParam r).map .ringStop
  | 5 => (ringParam r).map .ringFlush
  | 6 => parseCringSetup r
  | 7 => parseChannelConfig r
  | 8 => parseChannelEnable r
  | 9 => (chanParam r).map .channelDisable
  | 10 => (chanParam r).map .channelReset
  | 11 => parseScheduleWrite r
  | 12 => parseScheduleCommit r
  | 13 => (chanParam r).map .scheduleCancel
  | 14 => parseStationSet r
  | 15 => do let ch ← chanParam r; let st ← stationParam r; some (.stationRead ch st)
  | 16 => do let ch ← chanParam r; let st ← stationParam r; some (.stationRelease ch st)
  | 17 => parseFilterWrite r
  | 18 => some (.filterBins (BitVec.ofNat 64 (field r 64 64)))
  | 19 => parseFilterMode r
  | 20 => parseAlertMap r
  | 21 => (chanParam r).map fun ch => .countersRead ch (flagAt r 72)
  | _ => none

/-- The check of a taken record (R150): command code, reserved bits, parameters, in this order. -/
def checkRecord (r : Record) : Checked :=
  if recordCode r = 0 ∨ recordCode r > 21 then .fail .unknownCommand
  else if ¬ controlReservedZero r then .fail .invalidParam
  else match parseCommand r (recordCode r) with
    | some c => .pass c
    | none => .fail .invalidParam

/-- The channel a command names, for the entries of R153 that carry its cycle number. -/
def Command.channel? : Command → Option ChanId
  | .channelConfig ch _ _ _ _ | .channelEnable ch _ | .channelDisable ch | .channelReset ch
  | .scheduleWrite ch _ _ | .scheduleCommit ch _ _ | .scheduleCancel ch
  | .stationSet ch _ _ | .stationRead ch _ | .stationRelease ch _
  | .filterMode ch _ | .countersRead ch _ => some ch
  | .nop | .ringSetup _ _ _ | .ringStart _ | .ringStop _ | .ringFlush _ | .cringSetup _ _ _
  | .filterWrite _ _ | .filterBins _ | .alertMap _ => none

/-- The station a command names, for the entries of R153 that carry it. -/
def Command.station? : Command → Option (ChanId × StationId)
  | .stationSet ch st _ | .stationRead ch st | .stationRelease ch st => some (ch, st)
  | _ => none

/-- The command of a record that passes the checks. -/
def commandOf (r : Record) : Option Command :=
  match checkRecord r with
  | .pass c => some c
  | .fail _ => none

end Sys2Proof.Machine
end

