-- ==== Sys2Proof/Machine/Frames.lean ====
section
/-! DEFINITION. Frames on the line (R5 to R9, R172): bits and check of a frame, the shape of a frame the receiver can
report and what it reports of the bits of a stretch (R2), bit times (R3) and the needed time of an attempt (R17). -/

namespace Sys2Proof.Machine

/-! ## Bits and check -/

/-- `width` bits of `n`, most significant first (R172). -/
def bitsOf (n width : Nat) : List Bool :=
  (List.range width).map fun i => n.testBit (width - 1 - i)

/-- One bit of the cyclic check of R5: generator x^16 + x^12 + x^5 + 1. -/
def crcStep (c : BitVec 16) (b : Bool) : BitVec 16 :=
  if c.msb != b then (c <<< 1) ^^^ 0x1021 else c <<< 1

/-- The check over the header and payload bits: register preset to all ones, no inversion (R5). -/
def crc16 (bits : List Bool) : BitVec 16 :=
  bits.foldl crcStep 0xFFFF

/-- The bits of payload bytes. -/
def byteBits (bytes : List Byte) : List Bool :=
  bytes.flatMap fun b => bitsOf b.toNat 8

/-- The preamble (R172). -/
def preamble : List Bool :=
  bitsOf 0b10101010 8

/-- A whole frame from its start delimiter, header bits and payload: the check is sent most significant bit first. -/
def frameBits (delimiter : Nat) (header : List Bool) (payload : List Byte) : List Bool :=
  preamble ++ bitsOf delimiter 8 ++ header ++ byteBits payload ++
    bitsOf (crc16 (header ++ byteBits payload)).toNat 16

/-- The 32 header bits of a command or CALL frame in transmission order (R172); the spare bits are 0 (R6). -/
def CommandFrame.header (f : CommandFrame) : List Bool :=
  bitsOf f.station.toNat 6 ++ bitsOf f.operation.toNat 2 ++ [f.toggle, f.resync] ++ bitsOf f.length.toNat 6 ++
    bitsOf f.register.toNat 12 ++ List.replicate 4 false

/-- The types of frame, told apart by their start delimiter (R5). -/
inductive FrameType where
  | command | response | alert
  deriving DecidableEq, Repr

/-- The start delimiters (R172). -/
def FrameType.delimiter : FrameType → Nat
  | .command => 0x3C
  | .response => 0x5A
  | .alert => 0x69

/-- A command or CALL frame as it is sent (R5, R172). -/
def CommandFrame.bits (f : CommandFrame) : List Bool :=
  frameBits FrameType.command.delimiter f.header f.payload

/-- The length of a command frame in bits (R5). -/
def CommandFrame.bitLength (f : CommandFrame) : Nat :=
  Config.commandBits + 8 * f.payload.length

/-- The CALL frame (R7). -/
def callFrame : CommandFrame where
  station := 0
  operation := 3
  toggle := false
  resync := false
  length := 0
  register := 0
  payload := []

/-- The code of an operation in a command's header (R172). -/
def Operation.code : Operation → BitVec 2
  | .read => 0
  | .write => 1
  | .exchange => 2

/-- The command frame of a transaction's attempt (R6): WRITE and EXCHANGE carry the record's first `length` bytes. -/
def commandFrame (t : TransRecord) (toggle resync : Bool) : CommandFrame where
  station := BitVec.ofNat 6 t.station
  operation := t.op.code
  toggle := toggle
  resync := resync
  length := BitVec.ofNat 6 t.length
  register := t.register
  payload := if t.op = .read then [] else t.payload.take t.length

/-! ## Frames the receiver reports -/

/-- The frame is one the receiver reports as a whole frame. A response whose length exceeds 32 or whose kind is 3, and
an alert whose address is 0 or 63 or whose length exceeds 8, is reported malformed instead (R8, R9). -/
def RxFrame.formed : RxFrame → Bool
  | .command _ payload _ => payload.length ≤ 32
  | .response _ kind _ length _ payload _ => kind ≠ 3 && length.toNat ≤ 32 && payload.length == length.toNat
  | .alert address _ length _ _ payload _ =>
    address ≠ 0 && address ≠ 63 && length.toNat ≤ 8 && payload.length == length.toNat

/-! ## Bits of response and alert frames, and what the receiver reports of a stretch (R2, R5, R172) -/

/-- The number that bits spell, most significant first (R172). -/
def natOfBits (bits : List Bool) : Nat :=
  bits.foldl (fun n b => 2 * n + b.toNat) 0

/-- The widths of a header's fields in transmission order (R172). -/
def FrameType.widths : FrameType → List Nat
  | .command => [6, 2, 1, 1, 6, 12, 4]
  | .response => [6, 2, 1, 6, 1]
  | .alert => [6, 3, 4, 8, 3]

/-- The length of a header in bits (R5). -/
def FrameType.headerBits (k : FrameType) : Nat := k.widths.sum

/-- Fields of the given widths, sent one after another. -/
def joinFields : List Nat → List Nat → List Bool
  | w :: ws, n :: ns => bitsOf n w ++ joinFields ws ns
  | _, _ => []

/-- Fields of the given widths, read one after another. -/
def cutFields : List Nat → List Bool → List Nat
  | [], _ => []
  | w :: ws, bits => natOfBits (bits.take w) :: cutFields ws (bits.drop w)

/-- The bytes that bits spell, `n` of them. -/
def cutBytes (n : Nat) (bits : List Bool) : List Byte :=
  (cutFields (List.replicate n 8) bits).map (BitVec.ofNat 8)

/-- The type of a frame. -/
def RxFrame.type : RxFrame → FrameType
  | .command _ _ _ => .command
  | .response _ _ _ _ _ _ _ => .response
  | .alert _ _ _ _ _ _ _ => .alert

/-- The header of a frame as its fields in transmission order (R172). -/
def RxFrame.fields : RxFrame → List Nat
  | .command h _ _ => cutFields FrameType.command.widths (bitsOf h.toNat 32)
  | .response address kind toggle length spare _ _ =>
    [address.toNat, kind.toNat, toggle.toNat, length.toNat, spare.toNat]
  | .alert address priority length code spare _ _ =>
    [address.toNat, priority.toNat, length.toNat, code.toNat, spare.toNat]

/-- The payload of a frame. -/
def RxFrame.payload : RxFrame → List Byte
  | .command _ payload _ | .response _ _ _ _ _ payload _ | .alert _ _ _ _ _ payload _ => payload

/-- The bits of a frame as its sender sends it, with a good check (R5, R172). -/
def RxFrame.sent (f : RxFrame) : List Bool :=
  frameBits (RxFrame.type f).delimiter (joinFields (RxFrame.type f).widths (RxFrame.fields f)) (RxFrame.payload f)

/-- The frame that a header, a payload and the outcome of the check make. -/
def FrameType.frame (k : FrameType) (header : List Bool) (payload : List Byte) (good : Bool) : RxFrame :=
  match k, cutFields k.widths header with
  | .response, [address, kind, toggle, length, spare] =>
    .response (BitVec.ofNat 6 address) (BitVec.ofNat 2 kind) (toggle == 1) (BitVec.ofNat 6 length) (spare == 1) payload good
  | .alert, [address, priority, length, code, spare] =>
    .alert (BitVec.ofNat 6 address) (BitVec.ofNat 3 priority) (BitVec.ofNat 4 length) (BitVec.ofNat 8 code)
      (BitVec.ofNat 3 spare) payload good
  | _, _ => .command (BitVec.ofNat 32 (natOfBits header)) payload good

/-- The bytes of payload that a header gives (R5 to R9): the length field, but none for a READ or a CALL. A header that
cannot be well formed gives none: a length above 32, or above 8 in an alert, the undefined kind of a response, an alert's
address 0 or 63. -/
def FrameType.payloadLength (k : FrameType) (header : List Bool) : Option Nat :=
  match k, cutFields k.widths header with
  | .command, [_, operation, _, _, length, _, _] =>
    if 32 < length then none else some (if operation = 1 ∨ operation = 2 then length else 0)
  | .response, [_, kind, _, length, _] => if 32 < length ∨ kind = 3 then none else some length
  | .alert, [address, _, length, _, _] => if 8 < length ∨ address = 0 ∨ address = 63 then none else some length
  | _, _ => none

/-- What the receiver reports of a stretch of activity besides its start and its quiet (R2). -/
inductive Reception where
  | frame (f : RxFrame)
  | malformed
  | nonFrame
  deriving DecidableEq, Repr

/-- The start delimiter of a frame, recognised (R172). -/
def delimiterOf (bits : List Bool) : Option FrameType :=
  [FrameType.command, .response, .alert].find? fun k => bitsOf k.delimiter 8 == bits

/-- The bits that follow a start delimiter: a whole frame with its check compared, or a malformed frame, whose header
cannot be well formed or whose bits end before its header's frame end (R2, R5). -/
def FrameType.receive (k : FrameType) (bits : List Bool) : Reception :=
  let header := bits.take k.headerBits
  match k.payloadLength header with
  | none => .malformed
  | some n =>
    let covered := bits.take (k.headerBits + 8 * n)
    let check := (bits.drop (k.headerBits + 8 * n)).take 16
    if check.length < 16 then .malformed
    else .frame (k.frame header (cutBytes n (bits.drop k.headerBits)) (bitsOf (crc16 covered).toNat 16 == check))

/-- The report of a stretch with these bits, in the order received: its first preamble that a start delimiter follows begins
the frame (log entry 29). -/
def receive : List Bool → Reception
  | [] => .nonFrame
  | b :: rest =>
    if (b :: rest).take 8 = preamble then
      match delimiterOf ((rest.drop 7).take 8) with
      | some k => k.receive (rest.drop 15)
      | none => receive rest
    else receive rest

/-- The command by which the report of a stretch reaches a channel (R2). -/
def Reception.command (t : Moment) (ch : ChanId) : Reception → Instr
  | .frame f => .frameReport t ch f
  | .malformed => .malformedFrameReport t ch
  | .nonFrame => .nonFrameActivity t ch

/-! ## Bit times and the needed time -/

/-- The bit time in units of 125 ns (R3). -/
def BusRate.bit : BusRate → Nat
  | .r1 => 8
  | .r2 => 4
  | .r4 => 2
  | .r8 => 1

/-- A number of microseconds in units of 125 ns. -/
def micros (n : Nat) : Nat :=
  n * Config.ticksPerMicrosecond

/-- The gap of a channel as a time (R4). -/
def Channel.gapTime (c : Channel) : Nat :=
  c.gap * c.rate.bit

/-- The bytes a command of this record carries out (R17). -/
def TransRecord.bytesOut (t : TransRecord) : Nat :=
  if t.op = .read then 0 else t.length

/-- The expected length of the response (R10): the bytes that come back. -/
def TransRecord.bytesIn (t : TransRecord) : Nat :=
  if t.op = .write then 0 else t.length

/-- The needed time of an attempt (R17), exact; `window` is the station's response window in µs, absent for a
broadcast, which expects no response. -/
def neededTime (c : Channel) (t : TransRecord) (window : Option Nat) : Nat :=
  c.gapTime + (Config.commandBits + 8 * t.bytesOut) * c.rate.bit +
    match window with
    | none => 0
    | some w => micros w + (Config.responseBits + 8 * max t.bytesIn 1) * c.rate.bit

end Sys2Proof.Machine
end

