-- ==== Sys2Proof/Machine/Ops.lean ====
section
/-! DEFINITION. The named operations shared by the commands: access to the parts of the state, the time base, serial
comparison of cycle numbers, saturating counts, the writer of the status area (R167), reads of the register window
(R162). -/

namespace Sys2Proof.Machine

/-! ## Numbers -/

/-- Cycle `a` is after cycle `b` (00 section 6, R52): `(a - b) mod 2^32` lies in 1 to 2^31 - 1. -/
def Cycle.after (a b : Cycle) : Bool :=
  decide (1 ≤ (a - b).toNat) && decide ((a - b).toNat ≤ 2 ^ 31 - 1)

/-- Cycle `a` is before cycle `b` when `b` is after `a`. -/
def Cycle.before (a b : Cycle) : Bool :=
  Cycle.after b a

/-- `n + k`, stopping at `cap` (00 section 6). -/
def satAdd (cap n k : Nat) : Nat :=
  min (n + k) cap

/-- `i + k` modulo a ring's size. -/
def advance (size i k : Nat) : Nat :=
  (i + k) % size

/-- `a - b` modulo a ring's size. -/
def distance (size a b : Nat) : Nat :=
  (a + size - b) % size

/-- The address of slot `k` of a ring, or of the `k`-th unit of `unit` bytes from `base` (R68, R130, R146, R166). -/
def slotAddress (base : Addr) (unit k : Nat) : Nat :=
  (base + BitVec.ofNat 64 (unit * k)).toNat

/-! ## Access -/

def Dev.chan (d : Dev) (ch : ChanId) : Channel := d.channels[ch]

def Dev.setChan (d : Dev) (ch : ChanId) (c : Channel) : Dev := { d with channels := d.channels.set ch c }

def Dev.modChan (d : Dev) (ch : ChanId) (f : Channel → Channel) : Dev := d.setChan ch (f (d.chan ch))

def Dev.ring (d : Dev) (r : RingId) : TransRing := d.rings[r]

def Dev.setRing (d : Dev) (r : RingId) (x : TransRing) : Dev := { d with rings := d.rings.set r x }

def Dev.modRing (d : Dev) (r : RingId) (f : TransRing → TransRing) : Dev := d.setRing r (f (d.ring r))

/-- Change the head context of a ring, if it has a head. -/
def Dev.modHead (d : Dev) (r : RingId) (f : Head → Head) : Dev :=
  d.modRing r fun x => { x with head := x.head.map f }

def Dev.cring (d : Dev) (c : CrId) : Cring := d.crings[c]

def Dev.setCring (d : Dev) (c : CrId) (x : Cring) : Dev := { d with crings := d.crings.set c x }

def Dev.modCring (d : Dev) (c : CrId) (f : Cring → Cring) : Dev := d.setCring c (f (d.cring c))

def Dev.station (d : Dev) (ch : ChanId) (st : StationId) : StationRec := d.stations[ch][st]

def Dev.setStation (d : Dev) (ch : ChanId) (st : StationId) (x : StationRec) : Dev :=
  { d with stations := d.stations.set ch (d.stations[ch].set st x) }

def Dev.setEngine (d : Dev) (e : Engine) : Dev := { d with engine := e }

def Dev.setCcr (d : Dev) (c : Ccr) : Dev := { d with ccr := c }

def Dev.setPort (d : Dev) (p : HostPort) : Dev := { d with port := p }

/-- The eight transaction rings in ring order. -/
def allRings : List RingId := [0, 1, 2, 3, 4, 5, 6, 7]

/-- The four channels, or the four completion rings, in order. -/
def allFour : List (Fin 4) := [0, 1, 2, 3]

/-- The 62 stations of a channel in address order. -/
def allStations : List StationId := List.ofFn id

/-! ## Time and part state -/

/-- An event reaches the part at moment `t`; time never goes back (log entry 1). -/
def Dev.tick (d : Dev) (t : Moment) : Dev := { d with now := max d.now t }

def Dev.halted (d : Dev) : Bool := d.port.part == .halted

def Dev.running (d : Dev) : Bool := d.port.part == .running

def Dev.resetting (d : Dev) : Bool := d.port.part == .resetting

/-! ## The writer of the status area (R166, R167) -/

def fieldCtl : FieldId := 0

def fieldCcr : FieldId := 1

def fieldCring (c : CrId) : FieldId := ⟨2 + c.val, by omega⟩

def fieldRing (r : RingId) : FieldId := ⟨6 + r.val, by omega⟩

def Dev.fieldQueue (d : Dev) (f : FieldId) : FieldQueue := d.port.fields[f]

def Dev.setField (d : Dev) (f : FieldId) (q : FieldQueue) : Dev :=
  d.setPort { d.port with fields := d.port.fields.set f q }

/-- A request joins its field's writes: it is issued at once when none is in progress (R167). -/
def FieldQueue.request (q : FieldQueue) (r : StatusReq) : FieldQueue :=
  match q.inProgress with
  | none => { q with inProgress := some r }
  | some _ => { q with waiting := q.waiting ++ [r] }

/-- The write in progress has ended; the next one of the field, if any, is issued (R167). -/
def FieldQueue.next (q : FieldQueue) : FieldQueue :=
  match q.waiting with
  | [] => { inProgress := none, waiting := [] }
  | r :: rest => { inProgress := some r, waiting := rest }

/-- A request to publish an index. While the part is HALTED it is dropped (R167). -/
def Dev.publish (d : Dev) (f : FieldId) (value : Nat) (purpose : Purpose) : Dev :=
  if d.halted then d
  else d.setField f ((d.fieldQueue f).request { value := value, purpose := purpose })

/-- The address of a status area field (R166). -/
def Dev.fieldAddress (d : Dev) (f : FieldId) : Nat := slotAddress d.port.statusAddr 4 f.val

/-! ## Interrupt causes and registers (R162, R169) -/

/-- The bit of a cause in INT_STATUS: CC, C0 to C3 (R162). -/
def causeBit : EntryRing → Nat
  | .ccr => 0
  | .cr c => c.val + 1

/-- The bit of HALT in INT_STATUS. -/
def haltBit : Nat := 5

/-- Set an interrupt cause (R169). -/
def Dev.setCause (d : Dev) (bit : Nat) : Dev :=
  d.setPort { d.port with intStatus := d.port.intStatus ||| BitVec.twoPow 6 bit }

/-- The interrupt request: some cause is set whose mask bit is set (R169). -/
def Dev.interruptRequest (d : Dev) : Bool :=
  d.port.intStatus &&& d.port.intMask != 0

/-- STATUS as read (R162, R170). -/
def Dev.statusRegister (d : Dev) : Word :=
  BitVec.ofNat 32 (d.port.part.code + 16 * d.port.haltCause.code + 256 * d.port.resetCause.code)

/-- The register at word `k` of the window as it reads (R162): POST, FREE and unused offsets read 0, and so does the RESET
bit of CONTROL. -/
def Dev.register (d : Dev) (k : Nat) : Word :=
  match k with
  | 0 => Config.ident
  | 1 => BitVec.ofNat 32 d.port.enable.toNat
  | 2 => d.statusRegister
  | 3 => d.port.intStatus.setWidth 32
  | 4 => d.port.intMask.setWidth 32
  | 5 => d.port.rootLo
  | 6 => d.port.rootHi
  | _ => 0

/-- A read of `bytes` bytes of the register window at `offset` (R162): a read of fewer bytes than the register has returns
those bytes of it, the lowest first. -/
def Dev.readRegister (d : Dev) (offset : BitVec 6) (bytes : Nat) : List Byte :=
  ((leBytes (d.register (offset.toNat / 4)).toNat 4).drop (offset.toNat % 4)).take bytes

/-- The root address that ROOT_HI and ROOT_LO hold (R162, R164). -/
def Dev.rootAddress (d : Dev) : Nat := (d.port.rootHi ++ d.port.rootLo).toNat

/-! ## Channels: small facts every block reads -/

/-- The current window index of a channel, 0 when it is OFF (R109, R153). -/
def Dev.windowIndex (d : Dev) (ch : ChanId) : Nat :=
  if (d.chan ch).state = .off then 0
  else match (d.chan ch).window with
    | some w => w.index
    | none => 0

/-- The channel is OFF: no selection, no attempt, no window runs (R45 to R47). The configuration, lists, counter and
counters are kept. -/
def Channel.toOff (c : Channel) : Channel :=
  { c with state := .off, selection := none, attempt := none, window := none, tx := none, listening := none,
           activity := none }

/-- The states in which a CHANNEL_DISABLE and a halt take the channel to OFF at once: no line activity is in progress, and
the channel is neither OFF nor STUCK (R45, R47). -/
def Channel.stopsAtOnce (c : Channel) : Bool :=
  match c.state with
  | .idle | .quietWait => true
  | .listening => !c.lineActive
  | .off | .sending | .awaiting | .receiving | .chatter | .stuck => false

end Sys2Proof.Machine
end

