-- ==== Sys2Proof/Machine/Completion.lean ====
section
/-! DEFINITION. The completion unit (spec file 08) but for the ends of its writes: room, reservations, waiter lists,
posting queues, lost alerts, the CCR, the pending event set; the answers of the control engine (R151 to R153);
and the halt of the part, in which a channel that stops may answer a parked command. -/

namespace Sys2Proof.Machine

/-! ## Room (R130, R133, R141) -/

/-- An entry of this source holds a claim; the others hold a reservation (R130). -/
def EntrySource.claims : EntrySource → Bool
  | .event | .alert | .alertsLost => true
  | .transaction _ | .inHand | .parked _ => false

/-- The entries posted and not yet freed (R130). -/
def Slots.occupied (s : Slots) : Nat := distance s.size s.producer s.consumer

/-- The entries in the posting queue that hold a claim (R130). -/
def Slots.claims (s : Slots) : Nat := s.posting.countP fun p => p.source.claims

/-- The room of an ACTIVE ring (R133). -/
def Slots.room (s : Slots) : Nat := s.size - 1 - s.occupied - s.reservations - s.claims

/-- The room of a completion ring: that of R141 while FAULTED, none while DISABLED. -/
def Cring.room (c : Cring) : Nat :=
  match c.state with
  | .disabled => 0
  | .active => c.slots.room
  | .faulted => c.slots.size - 1 - c.slots.reservations

/-! ## Posting queues (R137) -/

/-- Issue the write of the oldest entry when no posting is in progress (R137). -/
def Slots.begin (s : Slots) : Slots :=
  if s.stage = .idle ∧ s.posting ≠ [] then { s with stage := .writing } else s

/-- An entry joins the tail of the posting queue; while the part is HALTED nothing is written (R145). -/
def Slots.post (s : Slots) (p : Posting) (halted : Bool) : Slots :=
  let s := { s with posting := s.posting ++ [p] }
  if halted then s else s.begin

/-- Hand an entry to the CCR. -/
def Dev.postCcr (d : Dev) (p : Posting) : Dev :=
  d.setCcr { d.ccr with slots := d.ccr.slots.post p d.halted }

/-- Hand an entry to the posting queue of a completion ring. -/
def Dev.postCring (d : Dev) (c : CrId) (p : Posting) : Dev :=
  d.modCring c fun x => { x with slots := x.slots.post p d.halted }

/-! ## Reservations of heads (R134 to R136, R141) -/

/-- Grant `n` of the waiting heads, oldest first: each takes a reservation, and its grant sets out (R134, R136). -/
def Dev.grantWaiters (d : Dev) (c : CrId) (n : Nat) : Dev :=
  let x := d.cring c
  let granted := x.waiters.take n
  let d := d.setCring c { x with waiters := x.waiters.drop n,
                                 slots := { x.slots with reservations := x.slots.reservations + granted.length } }
  { d with grants := d.grants ++ granted.map fun r => { ring := r } }

/-- The ALERTS_LOST entry of R139. -/
def alertsLostEntry (c : CrId) (lost : Nat) : Entry :=
  { kind := .alertsLost, source := c.val, detail := BitVec.ofNat 32 lost }

/-- A lost-alert count above 0 is turned into an ALERTS_LOST entry when there is room (R136 step 1, R139). -/
def Dev.reportLost (d : Dev) (c : CrId) : Dev :=
  let x := d.cring c
  if x.state = .active ∧ 0 < x.lost ∧ 1 ≤ x.room then
    (d.setCring c { x with lost := 0 }).postCring c { entry := alertsLostEntry c x.lost, source := .alertsLost }
  else d

/-- Room has become free: it goes to lost alerts, then to the oldest waiters, one slot each (R136, R141). -/
def Dev.giveRoom (d : Dev) (c : CrId) : Dev :=
  let d := d.reportLost c
  d.grantWaiters c (d.cring c).room

/-- A head's request: granted at once, or placed on the waiter list (R131, R134, R141). -/
def Dev.requestReservation (d : Dev) (c : CrId) (r : RingId) : Dev :=
  let x := d.cring c
  let atOnce := match x.state with
    | .disabled => false
    | .active => x.waiters.isEmpty && x.lost == 0 && decide (1 ≤ x.room)
    | .faulted => x.waiters.isEmpty && decide (1 ≤ x.room)
  let d := d.setCring c { x with waiters := x.waiters ++ [r] }
  if atOnce then d.grantWaiters c 1 else d

/-- A head's cancel: it leaves the waiter list, or its reservation ends and the room is given out (R135). -/
def Dev.cancelReservation (d : Dev) (c : CrId) (r : RingId) : Dev :=
  let x := d.cring c
  if r ∈ x.waiters then d.setCring c { x with waiters := x.waiters.filter (· ≠ r) }
  else (d.setCring c { x with slots := { x.slots with reservations := x.slots.reservations - 1 } }).giveRoom c

/-! ## Alerts (R131, R138) -/

/-- An ALERT entry handed over: posted with a claim, counted lost, counted dropped, or dropped without a count. -/
def Dev.postAlert (d : Dev) (c : CrId) (e : Entry) : Dev :=
  let x := d.cring c
  match x.state with
  | .disabled => d
  | .faulted => d.setCring c { x with dropped := satAdd Config.countCap x.dropped 1 }
  | .active =>
    if x.lost = 0 ∧ 1 ≤ x.room then d.postCring c { entry := e, source := .alert }
    else d.setCring c { x with lost := satAdd Config.shortCap x.lost 1 }

/-! ## The CCR and the pending event set (R142 to R144) -/

/-- The EVENT entry of an event as it leaves the set (R144). -/
def Dev.eventEntry (d : Dev) (e : Event) : Entry where
  kind := .event
  source := e.object
  detail := BitVec.ofNat 32 (e.kind.code * 2 ^ 24 + e.repeats)
  cycle := match e.kind with
    | .channelStuck => (d.chan (Fin.ofNat 4 e.object)).cycle
    | .ringFault | .cringFault => 0

/-- The oldest `n` events leave the set, each taking a claim (R144). -/
def Dev.postEvents (d : Dev) : Nat → Dev
  | 0 => d
  | n + 1 =>
    match d.engine.events with
    | [] => d
    | e :: rest =>
      ((d.setEngine { d.engine with events := rest }).postCcr { entry := d.eventEntry e, source := .event }).postEvents n

/-- Post pending events while the CCR is ACTIVE with room and the part RUNNING (R144). -/
def Dev.drainEvents (d : Dev) : Dev :=
  if d.running ∧ d.ccr.active then d.postEvents d.ccr.slots.room else d

/-- The control engine's waiting request is granted when no event is pending and there is room (R142). -/
def Dev.grantEngine (d : Dev) : Dev :=
  if d.ccr.requested ∧ d.ccr.active ∧ d.engine.events = [] ∧ 1 ≤ d.ccr.slots.room then
    d.setCcr { d.ccr with requested := false, granted := true,
                          slots := { d.ccr.slots with reservations := d.ccr.slots.reservations + 1 } }
  else d

/-- CCR room has risen: pending events first, then the control engine's request (R142). -/
def Dev.giveCcrRoom (d : Dev) : Dev := d.drainEvents.grantEngine

/-- The control engine asks for a CCR reservation (R142, R148). -/
def Dev.requestCcr (d : Dev) : Dev := (d.setCcr { d.ccr with requested := true }).grantEngine

/-- The same event: kind and object (R143). -/
def Event.same (e : Event) (kind : EventKind) (object : Nat) : Bool := e.kind == kind && e.object == object

/-- The event recurs: its repeat count advances, if it is the one (R143). -/
def Event.again (kind : EventKind) (object : Nat) (e : Event) : Event :=
  if e.same kind object then { e with repeats := satAdd Config.shortCap e.repeats 1 } else e

/-- A fault is entered: the event already pending counts a repeat, or a new one joins the tail and is posted at once
when the CCR has room (R143, R144). -/
def Dev.enterEvent (d : Dev) (kind : EventKind) (object : Nat) : Dev :=
  if d.engine.events.any (fun e => e.same kind object) then
    d.setEngine { d.engine with events := d.engine.events.map (Event.again kind object) }
  else
    (d.setEngine { d.engine with events := d.engine.events ++ [{ kind := kind, object := object, repeats := 0 }] }).drainEvents

/-! ## Answers of the control engine (R148, R151 to R153) -/

/-- The CONTROL entry of a record (R153). -/
def Dev.controlEntry (d : Dev) (r : Record) (status : ControlStatus) (detail : Nat) (payload : List Byte) : Entry :=
  let cmd := commandOf r
  let chan := cmd.bind Command.channel?
  let station := cmd.bind Command.station?
  { kind := .control, source := recordCode r, status := status.code, tag := recordTag r
    detail := BitVec.ofNat 32 detail
    presence := match station with
      | some (ch, st) => if status = .done then (d.station ch st).presence.code else 0
      | none => 0
    station := match station with
      | some (_, st) => stationAddress st
      | none => 0
    length := payload.length
    cycle := match chan with
      | some ch => (d.chan ch).cycle
      | none => 0
    window := match chan with
      | some ch => d.windowIndex ch
      | none => 0
    payload := payload }

/-- The command in hand completes: its CONTROL entry is handed over and the engine is POSTING (R151). -/
def Dev.completeInHand (d : Dev) (status : ControlStatus) (detail : Nat := 0) (payload : List Byte := []) : Dev :=
  match d.engine.inHand with
  | none => d
  | some r =>
    (d.setEngine { d.engine with phase := .posting, answering := false }).postCcr
      { entry := d.controlEntry r status detail payload, source := .inHand }

/-- The command in hand parks: it joins the tail of the list, and the engine is IDLE (R151). -/
def Dev.parkInHand (d : Dev) (note : ParkNote) : Dev :=
  match d.engine.inHand with
  | none => d
  | some r =>
    d.setEngine { d.engine with
      phase := .idle, inHand := none,
      parked := d.engine.parked ++ [{ record := r, waiting := true, note := note }] }

/-- A parked command is WAITING and is one of those asked for. -/
def Parked.matchesCommand (k : Parked) (p : Command → Bool) : Bool := k.waiting && (commandOf k.record).any p

/-- The first WAITING command on the list that is one of those asked for. -/
def Dev.findParked (d : Dev) (p : Command → Bool) : Option Parked :=
  d.engine.parked.find? fun k => k.matchesCommand p

/-- A command of the kind is WAITING: a second one is BUSY (R152). -/
def Dev.hasParked (d : Dev) (p : Command → Bool) : Bool := (d.findParked p).isSome

/-- The first WAITING command asked for becomes POSTING (R152). -/
def markPosting (p : Command → Bool) : List Parked → List Parked
  | [] => []
  | k :: rest => if k.matchesCommand p then { k with waiting := false } :: rest else k :: markPosting p rest

/-- A parked command completes: it becomes POSTING and its CONTROL entry is handed over (R152). -/
def Dev.completeParked (d : Dev) (p : Command → Bool) (status : ControlStatus) (detail : Nat := 0) : Dev :=
  match d.findParked p with
  | none => d
  | some k =>
    (d.setEngine { d.engine with parked := markPosting p d.engine.parked }).postCcr
      { entry := d.controlEntry k.record status detail [], source := .parked k.record }

/-- The entry of a parked command is reported done: the command leaves the list (R152). -/
def dropPosted (r : Record) : List Parked → List Parked
  | [] => []
  | k :: rest => if !k.waiting && k.record == r then rest else k :: dropPosted r rest

/-- The engine judges R148: IDLE asks for a reservation, RESERVED issues its read. -/
def Dev.judgeEngine (d : Dev) : Dev :=
  if d.running ∧ d.port.enable ∧ d.engine.post ≠ d.engine.read then
    match d.engine.phase with
    | .idle =>
      if d.engine.parked.length < Config.parkedLimit then
        (d.setEngine { d.engine with phase := .reserving }).requestCcr
      else d
    | .reserved => d.setEngine { d.engine with
        phase := .reading, address := slotAddress d.engine.base 64 d.engine.read, issued := d.now }
    | _ => d
  else d

/-! ## Which commands are parked on a target -/

def Command.isRingStop (r : RingId) : Command → Bool
  | .ringStop x => x == r
  | _ => false

def Command.isRingFlush (r : RingId) : Command → Bool
  | .ringFlush x => x == r
  | _ => false

def Command.isCommit (ch : ChanId) : Command → Bool
  | .scheduleCommit x _ _ => x == ch
  | _ => false

def Command.isDisable (ch : ChanId) : Command → Bool
  | .channelDisable x => x == ch
  | _ => false

def Command.isStationSet (ch : ChanId) (st : StationId) : Command → Bool
  | .stationSet x y _ => x == ch && y == st
  | _ => false

def Command.isStationRelease (ch : ChanId) (st : StationId) : Command → Bool
  | .stationRelease x y => x == ch && y == st
  | _ => false

/-- The host post index a RING_FLUSH in progress on the ring noted (R83). -/
def Dev.flushNoted (d : Dev) (r : RingId) : Option Nat :=
  match d.findParked (Command.isRingFlush r) with
  | some { note := .flush n, .. } => some n
  | _ => none

/-! ## A channel stops, and the part halts -/

/-- The channel enters OFF, and a CHANNEL_DISABLE parked on it completes DONE (R45). -/
def Dev.stopChannel (d : Dev) (ch : ChanId) : Dev :=
  (d.modChan ch Channel.toOff).completeParked (Command.isDisable ch) .done

/-- The wind-down of a channel when the part enters HALTED (R47): OFF at once where no line activity is in progress. A
CHANNEL_DISABLE can be parked there on a stretch whose quiet has been taken and whose report has not (log entry 24): it
completes DONE (R45, R152), several in channel order (log entry 6). -/
def Dev.windDown (d : Dev) (ch : ChanId) : Dev := if (d.chan ch).stopsAtOnce then d.stopChannel ch else d

/-- The part enters HALTED with a cause, unless it is HALTED already (R165): the HALT cause is set and every block is
told; a start in progress ends. -/
def Dev.halt (d : Dev) (cause : HaltCause) : Dev :=
  if d.port.part = .starting ∨ d.port.part = .running then
    allFour.foldl Dev.windDown
      ((d.setPort { d.port with part := .halted, haltCause := cause, start := .none }).setCause haltBit)
  else d

end Sys2Proof.Machine
end

