-- ==== Sys2Proof/Machine/Stations.lean ====
section
/-! DEFINITION. What each event does to one station record (spec file 02): verdicts, failures, transaction ends, hold
expiry, alerts, channel reset, the station commands; and which changes are reported (R20). -/

namespace Sys2Proof.Machine

/-- A failure (R24): consecutive failures advance, and reach quarantine or leave the presence, which a STALE verdict
takes to UNKNOWN. -/
def StationRec.fail (r : StationRec) (stale : Bool) : StationRec :=
  let n := satAdd Config.failureCap r.failures 1
  if r.failLimit ≤ n then { r with presence := .quarantined, hold := none, failures := n }
  else { r with presence := if stale then .unknown else r.presence, failures := n }

/-- A final verdict (R22): `cycle` is the channel's cycle counter when it is applied. -/
def StationRec.verdict (r : StationRec) (cycle : Cycle) : Verdict → StationRec
  | .validAck _ | .validNak _ => { r with presence := .present, toggle := !r.toggle, failures := 0 }
  | .validHold q =>
    { r with presence := if r.presence = .quarantined then .unknown else r.presence,
             hold := if q = 0 then r.hold else some (cycle + q.setWidth 32), failures := 0 }
  | .stale => if r.presence = .quarantined then r else r.fail true
  | .garbled | .none => if r.presence = .quarantined then r else r.fail false

/-- The indication of R22: this change has just put the station into QUARANTINED. -/
def justQuarantined (before after : StationRec) : Bool :=
  before.presence != .quarantined && after.presence == .quarantined

/-- A transaction end (R25); `commands` is the number of commands the transaction has put on the line (R110). -/
def StationRec.transactionEnd (r : StationRec) (status : TransStatus) (commands : Nat) : StationRec :=
  if 1 ≤ commands ∧ status ≠ .ok ∧ status ≠ .naked ∧ r.presence ≠ .quarantined then { r with presence := .unknown }
  else r

/-- Hold expiry at a cycle start (R26): a hold whose expiry is not after the cycle number is removed. -/
def StationRec.expire (cycle : Cycle) (r : StationRec) : StationRec :=
  match r.hold with
  | some e => if Cycle.after e cycle then r else { r with hold := none }
  | none => r

/-- Every hold of the channel is removed when CHANNEL_ENABLE gives a cycle number (R26, R44). -/
def StationRec.dropHold (r : StationRec) : StationRec := { r with hold := none }

/-- A valid alert (R27): READY ends a hold, any code revives a QUARANTINED station. -/
def StationRec.alert (code : Byte) (r : StationRec) : StationRec :=
  if r.hold.isSome then if code = 0 then { r with hold := none } else r
  else if r.presence = .quarantined then { r with presence := .unknown, failures := 0 }
  else r

/-- CHANNEL_RESET (R28), for a record that has a hold or the mark. -/
def StationRec.channelReset (r : StationRec) : StationRec :=
  if r.hold.isSome ∨ r.mark then
    { r with hold := none, mark := false,
             presence := if r.presence = .quarantined then .quarantined else .unknown }
  else r

/-- STATION_SET (R29). -/
def StationRec.set (s : StationSetting) (r : StationRec) : StationRec :=
  { presence := if s.quarantined then .quarantined else .unknown, toggle := false, hold := none, failures := 0
    respWindow := s.respWindow, retryLimit := s.retryLimit, holdLimit := s.holdLimit, failLimit := s.failLimit
    mark := r.mark }

/-- STATION_RELEASE (R30). -/
def StationRec.release (r : StationRec) : StationRec :=
  let r := { r with hold := none }
  if r.presence = .quarantined then { r with presence := .unknown, failures := 0 } else r

/-- The change frees heads for arbitration (R90): a hold removed or a quarantine ended. -/
def freedBy (before after : StationRec) : Bool :=
  (before.hold.isSome && after.hold.isNone) ||
    (before.presence == .quarantined && after.presence != .quarantined)

/-- The change is one that a station change report names (R20): a hold removed or set, presence becoming or leaving
QUARANTINED. -/
def reported (before after : StationRec) : Bool :=
  freedBy before after || (after.hold.isSome && after.hold != before.hold) || justQuarantined before after

end Sys2Proof.Machine
end

