-- ==== Sys2Proof/Machine/Rings.lean ====
section
/-! DEFINITION. The ring unit (spec files 05 and 06): heads and their reservations, the completion of a head (R77), the
stopping and flushing of rings, the checks that end a head without the line, the arbitration (R90 to R93), and the station
change report (R20) with what the ring unit and the channel unit do on it. -/

namespace Sys2Proof.Machine

/-! ## A head with its record and its ring's setup -/

/-- The head of a ring with the record it works on and the ring's setup. -/
structure HeadView where
  binding : Binding
  staged : Staged
  head : Head
  deriving DecidableEq, Repr

/-- The head of a ring, if it has one. -/
def Dev.headOf (d : Dev) (r : RingId) : Option HeadView :=
  match (d.ring r).binding, (d.ring r).staging, (d.ring r).head with
  | some b, sr :: _, some h => some { binding := b, staged := sr, head := h }
  | _, _, _ => none

/-- The station record's index for a head, none for a broadcast. -/
def HeadView.station (v : HeadView) : Option StationId := stationId v.staged.record.station

/-- The ring is bound to the channel. -/
def Dev.boundTo (d : Dev) (r : RingId) (ch : ChanId) : Bool :=
  match (d.ring r).binding with
  | some b => b.channel == ch
  | none => false

/-- The head waits with its reservation: the heads that the checks of R88 and R89 may end. -/
def Head.waiting (h : Head) : Bool :=
  h.reservation == .held && (h.state == .staged || h.state == .pendingRetry) && h.final.isNone

/-- The deadline of a record has passed at a cycle (R88). -/
def TransRecord.passed (t : TransRecord) (cycle : Cycle) : Bool :=
  t.deadlineFlag && Cycle.before t.deadline cycle

/-! ## Reservations, fetching, stopping, flushing -/

/-- The head asks its completion ring for a reservation (R76). -/
def Dev.askReservation (d : Dev) (r : RingId) : Dev :=
  match (d.ring r).binding, (d.ring r).head with
  | some b, some h =>
    if h.reservation = .none then
      (d.modHead r fun h => { h with reservation := .requested }).requestReservation b.cring r
    else d
  | _, _ => d

/-- The oldest staged record becomes the head, and asks where R69 and R76 say that it does. -/
def Dev.newHead (d : Dev) (r : RingId) : Dev :=
  if (d.ring r).staging = [] then d.modRing r fun x => { x with head := none }
  else
    let d := d.modRing r fun x => { x with head := some {} }
    if (d.ring r).state = .active ∨ (d.ring r).state = .faulted ∨ (d.flushNoted r).isSome then d.askReservation r else d

/-- The ring unit judges R71 and issues a read when all its conditions hold; none is issued while HALTED (R86). -/
def Dev.judgeFetch (d : Dev) (r : RingId) : Dev :=
  let x := d.ring r
  if x.state = .active ∧ x.reading = none ∧ x.staging.length < Config.stagingLimit ∧ x.fetch ≠ x.post ∧ ¬ d.halted then
    d.setRing r { x with reading := some { slot := x.fetch, address := slotAddress x.base 64 x.fetch, issued := d.now } }
  else d

/-- A grant on its way to the ring's head will not be taken up (R76). -/
def Grant.cancel (r : RingId) (g : Grant) : Grant := if g.ring = r then { g with void := true } else g

/-- The head gives up its request or reservation (R76): its field becomes NONE, a cancel goes to the completion ring,
and a grant on its way will not be taken up. -/
def Dev.giveUp (d : Dev) (r : RingId) : Dev :=
  match (d.ring r).binding, (d.ring r).head with
  | some b, some h =>
    if h.reservation = .none then d
    else
      let d := d.modHead r fun h => { h with reservation := .none }
      let d := { d with grants := d.grants.map (Grant.cancel r) }
      d.cancelReservation b.cring r
  | _, _ => d

/-- The head neither is on the line nor completes (R81). -/
def TransRing.quiet (x : TransRing) : Bool :=
  match x.head with
  | some h => h.state != .onLine && h.state != .completing
  | none => true

/-- A STOPPING ring becomes STOPPED when its head is quiet and no read is in flight (R81). -/
def Dev.judgeStopping (d : Dev) (r : RingId) : Dev :=
  let x := d.ring r
  if x.state = .stopping ∧ x.reading = none ∧ x.quiet then
    ((d.setRing r { x with state := .stopped }).giveUp r).completeParked (Command.isRingStop r) .done
  else d

/-- A FAULTED ring with a RING_STOP parked becomes STOPPED when its last staged record has left (R82). -/
def Dev.judgeFaulted (d : Dev) (r : RingId) : Dev :=
  let x := d.ring r
  if x.state = .faulted ∧ x.staging = [] ∧ d.hasParked (Command.isRingStop r) then
    (d.setRing r { x with state := .stopped }).completeParked (Command.isRingStop r) .done
  else d

/-- Step 3 of a RING_FLUSH: once the queue is empty the posted records not fetched are skipped, and the consumer index
is published; the report of that write completes the command (R83). -/
def Dev.judgeFlush (d : Dev) (r : RingId) : Dev :=
  let x := d.ring r
  match d.flushNoted r, x.binding with
  | some noted, some b =>
    if x.staging = [] then
      (d.setRing r { x with fetch := noted, consumer := noted }).publish (fieldRing r) noted
        (.flush r (distance b.size noted x.fetch))
    else d
  | _, _ => d

/-- The completion unit's report that a head's entry is done (R77 step 5): the record leaves the queue, the consumer
index advances and is published, the next record becomes the head, and the ring's conditions are judged afresh. -/
def Dev.doneReport (d : Dev) (r : RingId) : Dev :=
  let x := d.ring r
  match x.binding, x.staging with
  | some b, _ :: rest =>
    let consumer := advance b.size x.consumer 1
    let d := d.setRing r { x with staging := rest, consumer := consumer, head := none }
    let d := d.publish (fieldRing r) consumer .plain
    ((((d.newHead r).judgeFetch r).judgeStopping r).judgeFaulted r).judgeFlush r
  | _, _ => d

/-! ## Completing a head (R77, R109) -/

/-- A head's entry is handed to its completion ring: queued while ACTIVE, discarded with a done report while FAULTED
(R131, R141). -/
def Dev.handOver (d : Dev) (c : CrId) (r : RingId) (e : Entry) : Dev :=
  let x := d.cring c
  match x.state with
  | .disabled => d
  | .active => d.postCring c { entry := e, source := .transaction r }
  | .faulted =>
    ((d.setCring c { x with dropped := satAdd Config.countCap x.dropped 1,
                            slots := { x.slots with reservations := x.slots.reservations - 1 } }).giveRoom c).doneReport r

/-- The detail of a TRANSACTION entry (R109). -/
def transDetail (v : HeadView) (f : Final) : Nat :=
  match f.status with
  | .naked => f.reason.toNat
  | .invalid => match v.staged.validity with
    | .invalid code => code
    | .valid => 0
  | .heldOut | .quarantined | .expired | .aborted | .lineFault | .flushed => failureCode v.head.lastFailure
  | .ok | .timeout | .garbled => 0

/-- The TRANSACTION entry of a head (R109, R174). For a head whose station has no record, a broadcast or station 63, the
presence after is NONE, for a FLUSHED one too (log entry 26). -/
def Dev.transEntry (d : Dev) (r : RingId) (v : HeadView) (f : Final) : Entry where
  kind := .transaction
  source := r.val
  status := f.status.code
  presence := match v.station with
    | some st => if f.status = .invalid then 0 else (d.station v.binding.channel st).presence.code
    | none => 0
  tag := v.staged.record.tag
  detail := BitVec.ofNat 32 (transDetail v f)
  attempts := v.head.attempts
  holds := v.head.holds
  station := v.staged.record.station
  length := if f.status = .ok then f.data.length else 0
  cycle := f.cycle
  window := f.window
  payload := if f.status = .ok then f.data else []

/-- A selection that names the ring is left empty when its head completes (R38, R39). -/
def Channel.leaveSelection (r : RingId) (c : Channel) : Channel :=
  match c.selection with
  | some (.transaction x _) => if x = r then { c with selection := some .left } else c
  | _ => c

/-- Step 2 of R77: the station table applies the transaction end, for a station that has a record and a status other
than INVALID (R25, R110). -/
def Dev.endTransaction (d : Dev) (v : HeadView) (f : Final) : Dev :=
  match v.station with
  | some st =>
    if f.status = .invalid then d
    else d.setStation v.binding.channel st
      ((d.station v.binding.channel st).transactionEnd f.status (v.head.attempts + v.head.holds))
  | none => d

/-- A final status is assigned to a head. With its reservation HELD the head is completed by steps 1 to 4 of R77;
otherwise the status waits for the grant. -/
def Dev.assignFinal (d : Dev) (r : RingId) (f : Final) : Dev :=
  match d.headOf r with
  | none => d
  | some v =>
    if v.head.reservation = .held then
      let d := d.modHead r fun h => { h with state := .completing, final := some f }
      let d := d.modChan v.binding.channel (Channel.leaveSelection r)
      let d := d.endTransaction v f
      d.handOver v.binding.cring r (d.transEntry r v f)
    else d.modHead r fun h => { h with final := some f }

/-- The final status with the cycle and window R109 gives: those of the last attempt, or the channel's of now. -/
def Dev.finalOf (d : Dev) (v : HeadView) (status : TransStatus) (reason : Byte := 0) (data : List Byte := []) : Final :=
  match v.head.window with
  | some (c, i) => { status := status, reason := reason, data := data, cycle := c, window := i }
  | none => { status := status, reason := reason, data := data, cycle := (d.chan v.binding.channel).cycle,
              window := d.windowIndex v.binding.channel }

/-! ## The checks that end a head without the line (R88, R89) -/

/-- The deadline check of one head (R88). -/
def Dev.checkDeadline (d : Dev) (r : RingId) : Dev :=
  match d.headOf r with
  | none => d
  | some v =>
    let state := (d.ring r).state
    if (state = .active ∨ state = .stopping ∨ state = .faulted) ∧ v.head.waiting ∧
        v.staged.record.passed (d.chan v.binding.channel).cycle then
      d.assignFinal r (d.finalOf v .expired)
    else d

/-- The deadline check of the heads bound to a channel (R88), in ring order (log entry 6). -/
def Dev.checkDeadlines (d : Dev) (ch : ChanId) : Dev :=
  allRings.foldl (fun d r => if d.boundTo r ch then d.checkDeadline r else d) d

/-- The quarantine check of one head (R89). -/
def Dev.checkQuarantine (d : Dev) (r : RingId) : Dev :=
  match d.headOf r with
  | none => d
  | some v =>
    match v.station with
    | none => d
    | some st =>
      if (d.station v.binding.channel st).presence = .quarantined ∧ ¬ v.staged.record.probe ∧ v.head.waiting then
        d.assignFinal r (d.finalOf v .quarantined)
      else d

/-- The quarantine check of the heads of a channel's rings (R89), in ring order (log entry 6). -/
def Dev.checkQuarantines (d : Dev) (ch : ChanId) : Dev :=
  allRings.foldl (fun d r => if d.boundTo r ch then d.checkQuarantine r else d) d

/-! ## Arbitration (R87, R90 to R93) -/

/-- A head is eligible (R87). -/
def Dev.eligible (d : Dev) (r : RingId) : Bool :=
  match d.headOf r with
  | none => false
  | some v =>
    ((d.ring r).state == .active || (d.ring r).state == .faulted) && v.head.waiting && v.staged.validity == .valid

/-- Conditions 3 and 4 of R91: the station has no hold, and is not QUARANTINED or the record carries PROBE. -/
def StationRec.admits (r : StationRec) (probe : Bool) : Bool :=
  r.hold.isNone && (r.presence != .quarantined || probe)

/-- The fit check (R92): the needed time is not greater than the time left. -/
def Dev.fits (d : Dev) (ch : ChanId) (w : WindowRec) (t : TransRecord) : Bool :=
  let window := (stationId t.station).map fun st => (d.station ch st).respWindow
  decide (neededTime (d.chan ch) t window ≤ w.ends - d.now)

/-- A head is a candidate of the channel in a window at this moment (R91). -/
def Dev.candidate (d : Dev) (ch : ChanId) (w : WindowRec) (r : RingId) : Bool :=
  match d.headOf r with
  | none => false
  | some v =>
    d.eligible r && v.binding.channel == ch && w.kind == .transact && w.classes.getLsbD v.binding.cls.val &&
      (match v.station with
        | some st => (d.station ch st).admits v.staged.record.probe
        | none => true) &&
      !v.staged.record.passed (d.chan ch).cycle && d.fits ch w v.staged.record

/-- The class of a ring. -/
def Dev.classOf (d : Dev) (r : RingId) : Nat :=
  match (d.ring r).binding with
  | some b => b.cls.val
  | none => 0

/-- The rings in round-robin order after the last-granted one (R93). -/
def roundRobin (last : RingId) : List RingId := allRings.map fun k => last + 1 + k

/-- The highest class wins; among equals, the first in round-robin order (R93). -/
def Dev.select (d : Dev) (ch : ChanId) (w : WindowRec) : Option RingId :=
  (roundRobin (d.chan ch).lastGranted).foldl
    (fun best r =>
      if d.candidate ch w r then
        match best with
        | none => some r
        | some b => if d.classOf b < d.classOf r then some r else best
      else best)
    none

/-- The slot of a ring's head. -/
def Dev.headSlot (d : Dev) (r : RingId) : Nat :=
  match (d.ring r).staging with
  | sr :: _ => sr.slot
  | [] => 0

/-- An occasion of R90: an IDLE channel in a TRANSACT window, the part not HALTED, has the deadlines checked, and selects
the best candidate, if any, passing to QUIET_WAIT (R37). -/
def Dev.arbitrate (d : Dev) (ch : ChanId) : Dev :=
  match (d.chan ch).state, (d.chan ch).window with
  | .idle, some w =>
    if w.kind = .transact ∧ ¬ d.halted then
      let d := d.checkDeadlines ch
      match d.select ch w with
      | some r => d.modChan ch fun c =>
          { c with state := .quietWait, selection := some (.transaction r (d.headSlot r)), since := d.now }
      | none => d
    else d
  | _, _ => d

/-! ## Station changes (R20) -/

/-- A rule of the station table changes a record. A change that R20 names is reported, after the record has changed: the
ring unit takes the quarantine check, and then the channel unit an arbitration occasion, the order being the model's (log
entry 27). -/
def Dev.updateStation (d : Dev) (ch : ChanId) (st : StationId) (f : StationRec → StationRec) : Dev :=
  let before := d.station ch st
  let after := f before
  let d := d.setStation ch st after
  if reported before after then
    let d := if after.presence = .quarantined then d.checkQuarantines ch else d
    if freedBy before after then d.arbitrate ch else d
  else d

/-- The STATION_SET and STATION_RELEASE commands parked on a station are applied in the order they were taken, each then
completing DONE (R31). What the station change report of each causes comes before its CONTROL entry (log entry 34). -/
def Dev.applyParkedStation (d : Dev) (ch : ChanId) (st : StationId) : Dev :=
  d.engine.parked.foldl
    (fun d k =>
      if k.waiting then
        match commandOf k.record with
        | some (.stationSet x y setting) =>
          if x = ch ∧ y = st then
            (d.updateStation ch st (StationRec.set setting)).completeParked (Command.isStationSet ch st) .done
          else d
        | some (.stationRelease x y) =>
          if x = ch ∧ y = st then
            (d.updateStation ch st StationRec.release).completeParked (Command.isStationRelease ch st) .done
          else d
        | _ => d
      else d)
    d

/-- A final verdict reaches the station table: it is applied and reported, the mark is cleared, and the parked station
commands are applied (R21, R22). The ring unit takes the report, and with it the quarantine check, before the mark is cleared
(log entry 30). -/
def Dev.stationVerdict (d : Dev) (ch : ChanId) (st : StationId) (v : Verdict) : Dev :=
  let d := d.updateStation ch st fun r => r.verdict (d.chan ch).cycle v
  let d := d.setStation ch st { d.station ch st with mark := false }
  d.applyParkedStation ch st

end Sys2Proof.Machine
end

