-- ==== Sys2Proof/Machine/Channels.lean ====
section
/-! DEFINITION. The channel units (spec files 03, 04 and 06): selections and attempts, verdicts and what they do to the
head, line activity and its overruns, entries to IDLE, OFF, CHATTER and STUCK, windows and cycles. -/

namespace Sys2Proof.Machine

/-! ## Counters and overruns -/

/-- The verdict counters (R111): advanced when a verdict becomes final. -/
def Counters.verdict (k : Counters) : Verdict → Counters
  | .validAck _ => k
  | .validNak _ => { k with naks := satAdd Config.countCap k.naks 1 }
  | .validHold _ => { k with holds := satAdd Config.countCap k.holds 1 }
  | .stale | .garbled => { k with garbled := satAdd Config.countCap k.garbled 1 }
  | .none => { k with timeouts := satAdd Config.countCap k.timeouts 1 }

/-- A garbled report while LISTENING (R112). -/
def Counters.alertGarble (k : Counters) : Counters :=
  { k with alertGarbled := satAdd Config.countCap k.alertGarbled 1 }

/-- An activity ends at moment `m` (R66): past the end of its own window it is an overrun, and the later windows that ended
before `m` are lost. A window that ends exactly at `m` is not lost (log entry 7). -/
def Channel.account (c : Channel) (m : Moment) : Channel :=
  match c.activity with
  | none => c
  | some a =>
    if m ≤ a.ownEnd then { c with activity := none }
    else { c with
      activity := none
      counters := { c.counters with
        overruns := satAdd Config.countCap c.counters.overruns 1
        windowsLost := satAdd Config.countCap c.counters.windowsLost (a.crossed.countP fun e => decide (e < m)) } }

/-- A window ends while an activity lasts: a later window than the activity's own is noted (R66). -/
def Channel.cross (c : Channel) : Channel :=
  match c.activity, c.window with
  | some a, some w => if a.ownEnd < w.ends then { c with activity := some { a with crossed := a.crossed ++ [w.ends] } } else c
  | _, _ => c

/-! ## Entries to the channel states -/

/-- A CHANNEL_DISABLE is parked on the channel. -/
def Dev.disableParked (d : Dev) (ch : ChanId) : Bool := d.hasParked (Command.isDisable ch)

/-- The CALL of the current window is selected, and the channel waits for quiet (R56). -/
def Channel.selectCall (c : Channel) (w : WindowRec) (now : Moment) : Channel :=
  { c with state := .quietWait, since := now, window := some { w with call := .sent },
           selection := some (.call { cycle := w.cycle, index := w.index, ends := w.ends }) }

/-- An IDLE channel acts on its current window (R54, R56): an arbitration in a TRANSACT window, the CALL of an ALERT
window whose CALL is DUE, nothing in a QUIET window. -/
def Dev.actOnWindow (d : Dev) (ch : ChanId) : Dev :=
  match (d.chan ch).state, (d.chan ch).window with
  | .idle, some w =>
    match w.kind with
    | .transact => d.arbitrate ch
    | .alert => if w.call = .due then d.modChan ch fun c => c.selectCall w d.now else d
    | .quiet => d
  | _, _ => d

/-- The channel is IDLE with nothing on its line. -/
def Channel.toIdle (c : Channel) : Channel :=
  { c with state := .idle, selection := none, attempt := none, tx := none, listening := none }

/-- The channel enters IDLE (R37), or OFF while the part is HALTED (R47). -/
def Dev.enterIdle (d : Dev) (ch : ChanId) : Dev :=
  if d.halted then d.modChan ch Channel.toOff
  else (d.modChan ch Channel.toIdle).actOnWindow ch

/-- The activity a parked CHANNEL_DISABLE waits for is over: the channel enters OFF and the disable completes DONE (R45);
with none parked it enters IDLE. At the end of an attempt the entry of a RING_STOP that the verdict completed (`headVerdict`) has
been handed on before (log entry 33). -/
def Dev.activityOver (d : Dev) (ch : ChanId) : Dev :=
  if d.disableParked ch then d.stopChannel ch
  else d.enterIdle ch

/-- CHATTER is entered, and its limit starts to run (R42). -/
def Channel.toChatter (now : Moment) (c : Channel) : Channel :=
  { c with state := .chatter, since := now, listening := none }

/-- The provisional verdict of the attempt becomes GARBLED (R41). -/
def Channel.garble (c : Channel) : Channel :=
  { c with attempt := c.attempt.map fun a => { a with provisional := some .garbled } }

/-- STUCK is entered (R43): no selection, no attempt record; CHANNEL_STUCK is entered in the pending event set. In the
wind-down of R47 the channel enters OFF, and no event is entered. A parked CHANNEL_DISABLE completes BAD_STATE (R45), or
DONE when the channel enters OFF. The event is entered before the disable is answered (log entry 25). -/
def Dev.enterStuck (d : Dev) (ch : ChanId) : Dev :=
  if d.halted then d.stopChannel ch
  else
    ((d.modChan ch fun c =>
      { c with state := .stuck, selection := none, attempt := none, tx := none, listening := none, activity := none }).enterEvent
        .channelStuck ch.val).completeParked (Command.isDisable ch) .badState

/-! ## Verdicts at the head (R97 to R102, R108) -/

/-- What a failed verdict writes into the head's last failure (R97). -/
def lastFailureOf (v : Verdict) (old : Option Failure) : Option Failure :=
  match v with
  | .none => some .none
  | .garbled | .stale => some .garbled
  | .validAck _ | .validNak _ | .validHold _ => old

/-- The head's counts and last failure as a verdict leaves them: a hold takes the attempt back and counts a hold (R99). -/
def Head.afterVerdict (h : Head) (v : Verdict) : Head :=
  match v with
  | .validHold _ => { h with attempts := h.attempts - 1, holds := h.holds + 1 }
  | _ => { h with lastFailure := lastFailureOf v h.lastFailure }

/-- The status by which rows 1 to 6 of R97 end the head, with what the entry takes from the verdict; none is row 7. `h` is
the head after `afterVerdict`. -/
def headFate (h : Head) (v : Verdict) (quarantined lineFault passed : Bool) : Option (TransStatus × Byte × List Byte) :=
  if lineFault then some (.lineFault, 0, [])
  else match v with
    | .validAck data => some (.ok, 0, data)
    | .validNak reason => some (.naked, reason, [])
    | .validHold _ =>
      if h.holdLimit.getD 0 < h.holds then some (.heldOut, 0, [])
      else if passed then some (.expired, 0, []) else none
    | .none =>
      if h.attempts = h.retryLimit.getD 0 + 1 ∨ quarantined then some (.timeout, 0, [])
      else if passed then some (.expired, 0, []) else none
    | .garbled | .stale =>
      if h.attempts = h.retryLimit.getD 0 + 1 ∨ quarantined then some (.garbled, 0, [])
      else if passed then some (.expired, 0, []) else none

/-- A verdict reaches the ring unit (R97): a final status, or PENDING_RETRY; then a STOPPING ring is judged (R81). -/
def Dev.headVerdict (d : Dev) (r : RingId) (v : Verdict) (quarantined lineFault : Bool) : Dev :=
  match d.headOf r with
  | none => d
  | some view =>
    let h := view.head.afterVerdict v
    let d := d.modHead r fun _ => h
    let view := { view with head := h }
    let passed := view.staged.record.passed (d.chan view.binding.channel).cycle
    let d := match headFate h v quarantined lineFault passed with
      | some (status, reason, data) => d.assignFinal r (d.finalOf view status reason data)
      | none => d.modHead r fun h => { h with state := .pendingRetry }
    d.judgeStopping r

/-- The attempt's verdict is final (R41, R42, R97): it is counted, the activity is accounted, and it is handed to the
station table and then to the ring unit; a broadcast goes to the ring unit alone (R108), its successful end as an answer
without data. The attempt record is removed. A RING_STOP that the verdict completes is answered here, before a CHANNEL_DISABLE
that waits for the end of the attempt (log entry 33). -/
def Dev.finishAttempt (d : Dev) (ch : ChanId) (v : Verdict) (endsAt : Moment) (lineFault : Bool) : Dev :=
  match (d.chan ch).attempt with
  | none => d
  | some a =>
    let d := d.modChan ch fun c => { c with counters := c.counters.verdict v }.account endsAt
    let d := match a.ring, a.station with
      | some r, some st =>
        let before := d.station ch st
        let quarantined := justQuarantined before (before.verdict (d.chan ch).cycle v)
        (d.stationVerdict ch st v).headVerdict r v quarantined lineFault
      | some r, none => d.headVerdict r v false lineFault
      | none, _ => d
    d.modChan ch fun c => { c with attempt := none }

/-! ## The attempt (R38, R94, R95) -/

/-- The effective limits of a head, fixed at its first attempt (R94, R108): the record's own where its flags are set,
otherwise the station's defaults, and 0 for a broadcast. -/
def Head.fixLimits (h : Head) (t : TransRecord) (station : Option StationRec) : Head :=
  let retry := if t.retryFlag then t.retryLimit else (station.map StationRec.retryLimit).getD 0
  let hold := if t.holdFlag then t.holdLimit else (station.map StationRec.holdLimit).getD 0
  { h with retryLimit := some (h.retryLimit.getD retry), holdLimit := some (h.holdLimit.getD hold) }

/-- A frame begins to be sent: the attempt record is made and the channel is SENDING (R38, R40). -/
def Channel.send (c : Channel) (a : Attempt) (f : CommandFrame) (now : Moment) : Channel :=
  { c with state := .sending, selection := none, attempt := some a, tx := some f
           sendEnds := now + f.bitLength * c.rate.bit
           activity := some { ownEnd := a.window.ends, crossed := [] } }

/-- An attempt starts for the head of a ring (R38, R94, R95): the head goes ON_LINE with its limits fixed, the station is
marked, and toggle and resync flag are read from its record in the same event (R21). -/
def Dev.startAttempt (d : Dev) (ch : ChanId) (r : RingId) (v : HeadView) (w : WindowRec) : Dev :=
  let t := v.staged.record
  let station := v.station.map (d.station ch)
  let toggle := (station.map StationRec.toggle).getD false
  let resync := (station.map fun s => s.presence != .present).getD false
  let a : Attempt :=
    { kind := if v.station.isSome then .transaction else .broadcast
      ring := some r, station := v.station, toggle := toggle, resync := resync
      expected := if v.station.isSome then some t.bytesIn else none
      window := { cycle := w.cycle, index := w.index, ends := w.ends } }
  let d := d.modHead r fun h =>
    { h.fixLimits t station with attempts := h.attempts + 1, state := .onLine, window := some (w.cycle, w.index) }
  let d := match v.station with
    | some st => d.setStation ch st { d.station ch st with mark := true }
    | none => d
  d.modChan ch fun c =>
    { c.send a (commandFrame t toggle resync) d.now with
      lastGranted := r
      counters := { c.counters with attempts := satAdd Config.countCap c.counters.attempts 1 } }

/-- The check of a held selection when quiet is found (R38). -/
def Dev.checkSelection (d : Dev) (ch : ChanId) : Dev :=
  match (d.chan ch).selection, (d.chan ch).window with
  | some (.transaction r slot), some w =>
    match d.headOf r with
    | some v =>
      if v.staged.slot = slot ∧ d.candidate ch w r then d.startAttempt ch r v w else d.enterIdle ch
    | none => d.enterIdle ch
  | some (.call id), some w =>
    if w.kind = .alert ∧ w.cycle = id.cycle ∧ w.index = id.index then
      d.modChan ch fun c => c.send
        { kind := .call, ring := none, station := none, toggle := false, resync := false, expected := none, window := id }
        callFrame d.now
    else d.enterIdle ch
  | _, _ => d.enterIdle ch

/-- The quiet-wait limit expires with a transaction selected: its head, if it still waits with its reservation, ends
LINE_FAULT (R39, R102). -/
def Dev.faultSelected (d : Dev) (selection : Option Selection) : Dev :=
  match selection with
  | some (.transaction r slot) =>
    match d.headOf r with
    | some v => if v.staged.slot = slot ∧ v.head.waiting then d.assignFinal r (d.finalOf v .lineFault) else d
    | none => d
  | _ => d

/-! ## Windows and cycles (R51 to R54, R60, R61) -/

/-- The record of window `i` of the operational list, starting at moment `t` (R51, R54). -/
def Channel.windowAt (c : Channel) (i : Nat) (t : Moment) : Option WindowRec :=
  (c.operational[i]?).map fun w =>
    { cycle := c.cycle, index := i, kind := w.kind, classes := w.classes, ends := t + micros w.duration
      call := if w.kind = .alert then .due else .notDue }

/-- A window start (R54): the record is replaced, and the channel acts by its state. A LISTENING channel's window has
ended: with the line quiet it enters IDLE, with a stretch in progress it listens until that ends (R48, R67), and so it does for
a stretch of the window whose report has not been taken (R114, log entry 24). -/
def Dev.takeWindow (d : Dev) (ch : ChanId) (w : Option WindowRec) : Dev :=
  let d := d.modChan ch fun c => { c.cross with window := w }
  match (d.chan ch).state, (d.chan ch).listening with
  | .idle, _ => d.actOnWindow ch
  | .listening, some l =>
    if l.stretch = none ∧ ¬ (d.chan ch).lineActive then d.enterIdle ch
    else d.modChan ch fun c => { c with listening := some { l with ended := true } }
  | _, _ => d

/-- The length of a cycle under a list (R51). -/
def cycleTime (ws : List Window) : Moment := (ws.map fun w => micros w.duration).sum

/-- The swap of R61: the operational list becomes a copy of pending slots 0 to `length - 1`. -/
def Channel.swap (length : Nat) (c : Channel) : Channel :=
  { c with operational := (c.slots.toList.take length).filterMap id }

/-- A parked commit is due at a cycle start with this number (R60). -/
def commitDue (late : Bool) (switch cycle : Cycle) : Bool := late || !Cycle.before cycle switch

/-- The commit parked on the channel, if it is due at the channel's current number: its length and its late mark. -/
def Dev.dueCommit (d : Dev) (ch : ChanId) : Option (Nat × Bool) :=
  match d.findParked (Command.isCommit ch) with
  | some k =>
    match commandOf k.record, k.note with
    | some (.scheduleCommit _ length switch), .commit late =>
      if commitDue late switch (d.chan ch).cycle then some (length, late) else none
    | _, _ => none
  | none => none

/-- Step 2 of a cycle start: a due commit swaps and completes DONE, or DONE_LATE when marked late (R53, R60). -/
def Dev.swapIfDue (d : Dev) (ch : ChanId) : Dev :=
  match d.dueCommit ch with
  | some (length, late) =>
    (d.modChan ch (Channel.swap length)).completeParked (Command.isCommit ch) (if late then .doneLate else .done)
  | none => d

/-- Step 3 of a cycle start: the holds that have expired are removed, in address order (R26). -/
def Dev.expireHolds (d : Dev) (ch : ChanId) : Dev :=
  allStations.foldl (fun d st => d.updateStation ch st (StationRec.expire (d.chan ch).cycle)) d

/-- Every hold of the channel is removed (R26, R44 step 2). -/
def Dev.dropHolds (d : Dev) (ch : ChanId) : Dev :=
  allStations.foldl (fun d st => d.updateStation ch st StationRec.dropHold) d

/-- Steps 2 to 5 of a cycle start at moment `t` (R53). -/
def Dev.cycleSteps (d : Dev) (ch : ChanId) (t : Moment) : Dev :=
  let d := ((d.swapIfDue ch).expireHolds ch).checkDeadlines ch
  let d := d.modChan ch fun c => { c with cycleStart := t, cycleLength := cycleTime c.operational }
  d.takeWindow ch ((d.chan ch).windowAt 0 t)

end Sys2Proof.Machine
end

