-- ==== Sys2Proof/Machine/Alerts.lean ====
section
/-! DEFINITION. The alert unit (spec file 07): the decision on a valid alert, its steering and its entry. -/

namespace Sys2Proof.Machine

/-- A valid alert as the channel hears it (R116). -/
structure AlertFrame where
  station : StationId
  priority : Fin 8
  code : Byte
  payload : List Byte
  deriving DecidableEq, Repr

/-- A filter table entry matches an alert of a channel (R119). -/
def FilterEntry.applies (e : FilterEntry) (ch : ChanId) (a : AlertFrame) : Bool :=
  e.valid && e.channels.getLsbD ch.val && (e.station == 0 || e.station == stationAddress a.station) &&
    (a.code &&& e.mask) == (e.code &&& e.mask)

/-- The bin of an alert (R121). -/
def binOf (a : AlertFrame) : Nat := (a.code.toNat ^^^ (4 * stationAddress a.station)) % 64

/-- The first entry that matches, in index order (R120). -/
def AlertUnit.firstMatch (u : AlertUnit) (ch : ChanId) (a : AlertFrame) : Option FilterEntry :=
  u.table.toList.find? fun e => e.applies ch a

/-- The decision of the table, or of the bin when no entry matches (R118, R120): the priority used, or none for a
rejected alert. `set` is how the mode reads a bin: which of set or clear accepts. -/
def AlertUnit.filter (u : AlertUnit) (ch : ChanId) (a : AlertFrame) (set : Bool) : Option (Fin 8) :=
  match u.firstMatch ch a with
  | some e => if e.action = .accept then some (e.override.getD a.priority) else none
  | none => if u.bins.getLsbD (binOf a) = set then some a.priority else none

/-- The alert unit's decision (R118): the priority used of an accepted alert (R122), none for a rejected one. -/
def AlertUnit.decide (u : AlertUnit) (ch : ChanId) (a : AlertFrame) : Option (Fin 8) :=
  match u.modes[ch] with
  | .dropAll => none
  | .passAll => some a.priority
  | .filter => u.filter ch a true
  | .filterInverse => u.filter ch a false

/-- The ALERT entry (R123). -/
def alertEntry (ch : ChanId) (w : WindowId) (a : AlertFrame) (used : Fin 8) (after : Presence) : Entry where
  kind := .alert
  source := ch.val
  status := used.val
  presence := after.code
  detail := BitVec.ofNat 32 a.code.toNat
  station := stationAddress a.station
  length := a.payload.length
  cycle := w.cycle
  window := w.index
  payload := a.payload

/-- A valid alert is handed on (R116): first to the station table (R27), then to the alert unit, which decides it and
steers it (R118, R122); while the part is HALTED the alert unit drops it (R129). -/
def Dev.hearAlert (d : Dev) (ch : ChanId) (w : WindowId) (a : AlertFrame) : Dev :=
  let d := d.updateStation ch a.station (StationRec.alert a.code)
  if d.halted then d
  else match d.alert.decide ch a with
    | none => d
    | some used =>
      match d.alert.map[used] with
      | .discard => d
      | .cr c => d.postAlert c (alertEntry ch w a used (d.station ch a.station).presence)

end Sys2Proof.Machine
end

