-- ==== Sys2Proof/Machine/HostPort.lean ====
section
/-! DEFINITION. The commands of the register window and the resets (spec file 10, sections 10.1, 10.2, 10.4, 10.5), and
the grants that reach a head and the control engine (R76, R148). -/

namespace Sys2Proof.Machine

/-! ## Resets (R170) -/

/-- The root read, when it is issued and has not ended. -/
def Dev.rootInFlight (d : Dev) : List PortOp :=
  match d.port.start with
  | .reading address issued => [.rootRead address issued]
  | _ => []

/-- The record reads issued and not ended, by ring. -/
def Dev.recordsInFlight (d : Dev) : List PortOp :=
  allRings.filterMap fun r => ((d.ring r).reading.map fun x => .recordRead r x.address x.issued)

/-- The control read, when it is issued and has not ended. -/
def Dev.controlInFlight (d : Dev) : List PortOp :=
  if d.engine.phase = .reading then [.controlRead d.engine.address d.engine.issued] else []

/-- The entry write of one ring's slots, when it is issued and has not ended. -/
def Slots.inFlight (s : Slots) (target : EntryRing) : List PortOp :=
  match s.stage, s.posting with
  | .writing, p :: _ => [.entryWrite target (slotAddress s.base 64 s.producer) p.entry.bytes]
  | _, _ => []

/-- The status field writes issued and not ended. -/
def Dev.fieldsInFlight (d : Dev) : List PortOp :=
  (List.ofFn id : List FieldId).filterMap fun f =>
    (d.fieldQueue f).inProgress.map fun q => .statusWrite f (d.fieldAddress f) (leBytes q.value 4)

/-- The memory port operations of a running part that have been issued and have not ended. -/
def Dev.inFlight (d : Dev) : List PortOp :=
  List.flatten
    [d.rootInFlight, d.recordsInFlight, d.controlInFlight,
      allFour.flatMap fun c => (d.cring c).slots.inFlight (.cr c),
      d.ccr.slots.inFlight .ccr, d.fieldsInFlight]

/-- A reset starts (R170): every block takes its reset values, operations not issued are discarded, and those issued are
left to end. The time base runs on. -/
def Dev.reset (d : Dev) (cause : ResetCause) : Dev :=
  { now := d.now
    port := { part := .resetting, resetCause := cause, drain := d.port.drain ++ d.inFlight } }

/-- The line is taken as quiet from the moment the reset ends (R2). -/
def Channel.quietFrom (now : Moment) (c : Channel) : Channel := { c with lastQuiet := now, lineActive := false }

/-- The reset ends when every issued operation has ended (R170 step 3). -/
def Dev.resetEnd (d : Dev) : Dev :=
  if d.resetting ∧ d.port.drain = [] then
    { d.setPort { d.port with part := .disabled } with channels := d.channels.map (Channel.quietFrom d.now) }
  else d

/-- A write of CONTROL with RESET 1 (R163); one taken while RESETTING is ignored. -/
def Dev.controllerReset (d : Dev) : Dev := if d.resetting then d else d.reset .controller

/-! ## CONTROL, the interrupt registers, ROOT_LO and ROOT_HI (R162 to R164, R169) -/

/-- STARTING begins (R164 steps 1 and 2): the reset cause becomes NONE, the root address is taken from ROOT_HI and ROOT_LO,
and the root record is read there, unless the address is no multiple of 64. -/
def Dev.start (d : Dev) : Dev :=
  let d := d.setPort { d.port with part := .starting, resetCause := .none }
  if d.rootAddress % 64 = 0 then d.setPort { d.port with start := .reading d.rootAddress d.now }
  else d.halt .rootInvalid

/-- A write of CONTROL with RESET 0 stores ENABLE, and a change of it acts by the part state (R163). -/
def Dev.writeEnable (d : Dev) (enable : Bool) : Dev :=
  if d.resetting ∨ d.port.enable = enable then d
  else
    let d := d.setPort { d.port with enable := enable }
    if enable then
      match d.port.part with
      | .disabled => d.start
      | .running => d.judgeEngine
      | .starting | .halted | .resetting => d
    else d

/-- A write of INT_STATUS clears each cause written 1 (R169). -/
def Dev.clearCauses (d : Dev) (value : Word) : Dev :=
  if d.resetting then d
  else d.setPort { d.port with intStatus := d.port.intStatus &&& ~~~(value.setWidth 6) }

/-- A write of INT_MASK (R169). -/
def Dev.writeMask (d : Dev) (value : Word) : Dev :=
  if d.resetting then d else d.setPort { d.port with intMask := value.setWidth 6 }

/-! ## POST and FREE (R70, R136, R142, R147, R168) -/

/-- A POST to a transaction ring (R70). -/
def Dev.postRing (d : Dev) (r : RingId) (index : Nat) : Dev :=
  let x := d.ring r
  match x.binding with
  | some b => if x.state ≠ .disabled ∧ index < b.size then (d.setRing r { x with post := index }).judgeFetch r else d
  | none => d

/-- A POST to the control ring (R147). -/
def Dev.postControl (d : Dev) (index : Nat) : Dev :=
  if index < d.engine.size then (d.setEngine { d.engine with post := index }).judgeEngine else d

/-- A FREE names an index inside the span from the host consumer index to the producer index, and not the first (R136). -/
def Slots.frees (s : Slots) (index : Nat) : Bool :=
  decide (index < s.size) && decide (distance s.size index s.consumer ≤ s.occupied) && index != s.consumer

/-- A FREE to CR0 to CR3 (R136). -/
def Dev.freeCring (d : Dev) (c : CrId) (index : Nat) : Dev :=
  let x := d.cring c
  if x.state = .active ∧ x.slots.frees index then
    (d.setCring c { x with slots := { x.slots with consumer := index } }).giveRoom c
  else d

/-- A FREE to the CCR (R142). -/
def Dev.freeCcr (d : Dev) (index : Nat) : Dev :=
  if d.ccr.active ∧ d.ccr.slots.frees index then
    (d.setCcr { d.ccr with slots := { d.ccr.slots with consumer := index } }).giveCcrRoom
  else d

/-- A POST by its ring number: 0 to 7, or 15; any other is ignored (R168). -/
def Dev.writePost (d : Dev) (value : Word) : Dev :=
  let index := (value.extractLsb' 16 12).toNat
  match toFin 8 (value.extractLsb' 0 4).toNat with
  | some r => d.postRing r index
  | none => if value.extractLsb' 0 4 = 15 then d.postControl index else d

/-- A FREE by its ring number: 0 to 3, or 15; any other is ignored (R168). -/
def Dev.writeFree (d : Dev) (value : Word) : Dev :=
  let index := (value.extractLsb' 16 12).toNat
  match toFin 4 (value.extractLsb' 0 4).toNat with
  | some c => d.freeCring c index
  | none => if value.extractLsb' 0 4 = 15 then d.freeCcr index else d

/-- A write to the register window (R162): whole registers only, none while RESETTING; read-only registers and unused
offsets ignore it. -/
def Dev.writeRegister (d : Dev) (offset : BitVec 6) (bytes : Nat) (value : Word) : Dev :=
  if d.resetting ∨ bytes ≠ 4 ∨ offset.toNat % 4 ≠ 0 then d
  else match offset.toNat / 4 with
    | 1 => if value.getLsbD 1 then d.controllerReset else d.writeEnable (value.getLsbD 0)
    | 3 => d.clearCauses value
    | 4 => d.writeMask value
    | 5 => d.setPort { d.port with rootLo := value }
    | 6 => d.setPort { d.port with rootHi := value }
    | 7 => d.writePost value
    | 8 => d.writeFree value
    | _ => d

/-! ## Grants (R76, R148) -/

/-- A grant reaches a head (R76): the head is HELD, and is then flushed, completed INVALID, completed with the status it
has, or reported eligible and checked. A grant whose head has cancelled is not taken up. -/
def Dev.takeGrant (d : Dev) (r : RingId) : Dev :=
  match d.grants.find? fun g => g.ring == r with
  | none => d
  | some g =>
    let d := { d with grants := d.grants.eraseP fun g => g.ring == r }
    match g.void, d.headOf r with
    | false, some v =>
      let d := d.modHead r fun h => { h with reservation := .held }
      if (d.flushNoted r).isSome then
        d.assignFinal r { status := .flushed, cycle := (d.chan v.binding.channel).cycle, window := 0 }
      else if v.staged.validity ≠ .valid then d.assignFinal r (d.finalOf v .invalid)
      else match v.head.final with
        | some f => d.assignFinal r f
        | none =>
          let d := if d.eligible r then d.arbitrate v.binding.channel else d
          (d.checkDeadline r).checkQuarantine r
    | _, _ => d

/-- The CCR grant reaches the control engine (R148). -/
def Dev.takeCcrGrant (d : Dev) : Dev :=
  if d.ccr.granted ∧ d.engine.phase = .reserving then
    ((d.setCcr { d.ccr with granted := false }).setEngine { d.engine with phase := .reserved }).judgeEngine
  else d

/-! ## The commands -/

/-- A command that acts on the part alone: the queue and the memory image stay. -/
def State.onDev (s : State) (f : Dev → Dev) : State := { s with dev := f s.dev }

/-- POWER_ON_RESET (R170). -/
def execPowerOnReset (t : Moment) (s : State) : Host.Outcome State Fault Refusal :=
  .next (s.onDev fun d => (d.tick t).reset .power)

/-- CONTROLLER_RESET (R163, R170): the ENABLE bit of the write is discarded. -/
def execControllerReset (t : Moment) (_enable : Bool) (s : State) : Host.Outcome State Fault Refusal :=
  .next (s.onDev fun d => (d.tick t).controllerReset)

/-- RESET_END (R170). -/
def execResetEnd (t : Moment) (s : State) : Host.Outcome State Fault Refusal :=
  .next (s.onDev fun d => (d.tick t).resetEnd)

/-- ENABLE_SET (R163). -/
def execEnableSet (t : Moment) (s : State) : Host.Outcome State Fault Refusal :=
  .next (s.onDev fun d => (d.tick t).writeEnable true)

/-- ENABLE_CLEAR (R163). -/
def execEnableClear (t : Moment) (s : State) : Host.Outcome State Fault Refusal :=
  .next (s.onDev fun d => (d.tick t).writeEnable false)

/-- INT_STATUS_CLEAR (R169). -/
def execIntStatusClear (t : Moment) (value : Word) (s : State) : Host.Outcome State Fault Refusal :=
  .next (s.onDev fun d => (d.tick t).clearCauses value)

/-- INT_MASK_WRITE (R169). -/
def execIntMaskWrite (t : Moment) (value : Word) (s : State) : Host.Outcome State Fault Refusal :=
  .next (s.onDev fun d => (d.tick t).writeMask value)

/-- REGISTER_WRITE (R162). -/
def execRegisterWrite (t : Moment) (offset : BitVec 6) (bytes : Nat) (value : Word) (s : State) :
    Host.Outcome State Fault Refusal :=
  .next (s.onDev fun d => (d.tick t).writeRegister offset bytes value)

/-- POST_TRANSACTION_RING (R70). -/
def execPostTransactionRing (t : Moment) (r : RingId) (index : BitVec 12) (s : State) :
    Host.Outcome State Fault Refusal :=
  .next (s.onDev fun d => (d.tick t).postRing r index.toNat)

/-- POST_CONTROL_RING (R147). -/
def execPostControlRing (t : Moment) (index : BitVec 12) (s : State) : Host.Outcome State Fault Refusal :=
  .next (s.onDev fun d => (d.tick t).postControl index.toNat)

/-- FREE_COMPLETION_RING (R136). -/
def execFreeCompletionRing (t : Moment) (c : CrId) (index : BitVec 12) (s : State) :
    Host.Outcome State Fault Refusal :=
  .next (s.onDev fun d => (d.tick t).freeCring c index.toNat)

/-- FREE_CCR (R142). -/
def execFreeCcr (t : Moment) (index : BitVec 12) (s : State) : Host.Outcome State Fault Refusal :=
  .next (s.onDev fun d => (d.tick t).freeCcr index.toNat)

/-- RESERVATION_GRANT (R76). -/
def execReservationGrant (t : Moment) (r : RingId) (s : State) : Host.Outcome State Fault Refusal :=
  .next (s.onDev fun d => (d.tick t).takeGrant r)

/-- CCR_RESERVATION_GRANT (R148). -/
def execCcrReservationGrant (t : Moment) (s : State) : Host.Outcome State Fault Refusal :=
  .next (s.onDev fun d => (d.tick t).takeCcrGrant)

end Sys2Proof.Machine
end

