-- ==== Sys2Proof/Machine/Line.lean ====
section
/-! DEFINITION. The receiver's reports (R2) as each channel state takes them (R35): activity starts and quiet, frames,
malformed frames and non-frame activity; the classification of a response (R14) and of an alert window's reports (R112). -/

namespace Sys2Proof.Machine

/-! ## The response of an attempt (R13 to R15) -/

/-- The classification of a whole frame received as the response of an attempt (R14), by the first row that applies. -/
def classify (a : Attempt) : RxFrame → Verdict
  | .response address kind toggle length _ payload good =>
    if ¬ good then .garbled
    else if a.station.map stationAddress ≠ some address.toNat then .garbled
    else if kind ≠ 0 ∧ length ≠ 1 then .garbled
    else if kind = 1 ∧ payload.headD 0 = 4 then .garbled
    else if toggle ≠ a.toggle then .stale
    else if kind = 0 ∧ a.expected ≠ some length.toNat then .garbled
    else if kind = 0 then .validAck payload
    else if kind = 1 then .validNak (payload.headD 0)
    else .validHold (payload.headD 0)
  | .command _ _ _ | .alert _ _ _ _ _ _ _ => .garbled

/-- The response has ended: the verdict of R14 is provisional from here on (R15). -/
def Channel.endResponse (c : Channel) (v : Verdict) (endsAt : Option Moment) : Channel :=
  { c with attempt := c.attempt.map fun a => { a with provisional := some v, respEnd := endsAt } }

/-- Activity that R15, R16 and R41 do not allow: the attempt is GARBLED and the channel is in CHATTER. -/
def Channel.chatter (now : Moment) (c : Channel) : Channel := (c.garble).toChatter now

/-- A response has started: the channel is RECEIVING (R13). -/
def Channel.receive (now : Moment) (c : Channel) : Channel :=
  { c with state := .receiving, attempt := c.attempt.map fun a => { a with started := now } }

/-- The moment the response window of an attempt in AWAITING expires (R13). -/
def Attempt.windowEnds (a : Attempt) : Moment := a.opened + micros (a.respWindow.getD 0)

/-! ## Activity and quiet (R2, R35) -/

/-- A stretch is heard for an ALERT window from its activity start on: if the window ends before it, it is the line activity
that R65 accounts (R114). -/
def Channel.hearStretch (l : Listening) (start : Moment) (c : Channel) : Channel :=
  { c with listening := some { l with stretch := some start, counted := false }
           activity := some { ownEnd := l.window.ends, crossed := [] } }

/-- An activity start: in AWAITING it begins the response or, after a broadcast, means chatter; in RECEIVING it is
activity in the trailing gap; in LISTENING it starts a stretch (R35, R41, R114). The stretch has its report to come (R2). -/
def Channel.activityStart (now : Moment) (c : Channel) : Channel :=
  let wasActive := c.lineActive
  let c := { c with lineActive := true, activeSince := now, unreported := true }
  match c.state, c.attempt, c.listening with
  | .awaiting, some a, _ =>
    if a.kind = .broadcast then c.chatter now
    else if now ≤ a.windowEnds then c.receive now
    else c
  | .receiving, some a, _ => if a.provisional.isSome ∨ ¬ wasActive then c.chatter now else c
  | .listening, _, some l =>
    if l.stretch = none ∨ ¬ (wasActive ∨ l.ended) then c.hearStretch l now else c
  | _, _, _ => c

/-- LINE_ACTIVITY_START on a channel. -/
def Dev.lineActivity (d : Dev) (ch : ChanId) : Dev := d.modChan ch (Channel.activityStart d.now)

/-- The stretch a channel hears is over: the line is quiet and its report has been taken. -/
def Channel.stretchDone (c : Channel) : Bool :=
  c.listening.any (fun l => l.stretch.isSome) && !c.lineActive && !c.unreported

/-- Judge whether the stretch that a LISTENING channel hears is over, which it is at the later of its quiet and its report, both
given at its end (R2; log entry 24). If a CHANNEL_DISABLE waits for it, or its window has ended, or the part is HALTED, the
listening is then over (R48, R114, R115). -/
def Dev.stretchOver (d : Dev) (ch : ChanId) : Dev :=
  match (d.chan ch).state, (d.chan ch).listening with
  | .listening, some l =>
    if (d.chan ch).stretchDone then
      let d := d.modChan ch fun c => { c with listening := some { l with stretch := none } }
      if d.disableParked ch ∨ l.ended ∨ d.halted then d.activityOver ch else d
    else d
  | _, _ => d

/-- The quiet after a response (R15): it ends non-frame activity; a quiet later than the frame end shows that the line was
active in the gap, which may be after a malformed report given at a header field as well (log entry 13). -/
def Channel.quietAfterResponse (now : Moment) (a : Attempt) (c : Channel) : Channel :=
  match a.provisional, a.respEnd with
  | some v, none => c.endResponse v (some now)
  | some _, some e => if e < now then c.chatter now else c
  | none, _ => c

/-- The quiet in AWAITING: later than the frame end of a broadcast it shows that the line was active in the gap, and the
channel passes to CHATTER (R16; log entry 23). -/
def Channel.quietAwaiting (now : Moment) (a : Attempt) (c : Channel) : Channel :=
  if a.kind = .broadcast ∧ a.opened < now then c.chatter now else c

/-- LINE_QUIET on a channel: the last quiet transition is this moment, in every channel state (R33). In LISTENING the line
activity of a stretch ends here and is accounted (R65, R66). -/
def Dev.lineQuiet (d : Dev) (ch : ChanId) : Dev :=
  let d := d.modChan ch fun c => { c with lineActive := false, lastQuiet := d.now }
  match (d.chan ch).state, (d.chan ch).attempt, (d.chan ch).listening with
  | .awaiting, some a, _ => d.modChan ch (Channel.quietAwaiting d.now a)
  | .receiving, some a, _ => d.modChan ch (Channel.quietAfterResponse d.now a)
  | .listening, _, some l => if l.stretch.isSome then (d.modChan ch (Channel.account · d.now)).stretchOver ch else d
  | _, _, _ => d

/-! ## Frames (R14, R112) -/

/-- A garbled report of a stretch heard while LISTENING: ALERT_GARBLED advances, at most once for one stretch (R112). -/
def Channel.countGarbled (c : Channel) : Channel :=
  if c.listening.any Listening.counted then c
  else { c with counters := c.counters.alertGarble, listening := c.listening.map fun l => { l with counted := true } }

/-- A report that garbles: it ends a response at `endsAt` with verdict GARBLED, or counts in ALERT_GARBLED; in the other
states it is discarded (R14, R35, R112). -/
def Channel.garbledReport (endsAt : Option Moment) (c : Channel) : Channel :=
  match c.state with
  | .receiving => if c.attempt.any fun a => a.provisional.isNone then c.endResponse .garbled endsAt else c
  | .listening => c.countGarbled
  | _ => c

/-- The stretch on the line has produced its report (R2). -/
def Channel.report (c : Channel) : Channel := { c with unreported := false }

/-- MALFORMED_FRAME_REPORT on a channel. The response ends at this report, which may be given at a header field with the line
still active (R2, R14; log entry 13). -/
def Dev.malformed (d : Dev) (ch : ChanId) : Dev :=
  (d.modChan ch fun c => c.report.garbledReport (some d.now)).stretchOver ch

/-- NON_FRAME_ACTIVITY on a channel: the response ends at the quiet report that closes it (R14), which may come before or
after this report. -/
def Dev.nonFrame (d : Dev) (ch : ChanId) : Dev :=
  (d.modChan ch fun c => c.report.garbledReport (if c.lineActive then none else some c.lastQuiet)).stretchOver ch

/-- The valid alert of a report (R9, R112). -/
def RxFrame.validAlert : RxFrame → Option AlertFrame
  | .alert address priority _ code _ payload true =>
    (stationId address.toNat).map fun st => { station := st, priority := priority.toFin, code := code, payload := payload }
  | _ => none

/-- FRAME_REPORT on a channel. A frame whose header does not fit its payload is one the receiver reports malformed (R2). R2 has
at most one report for a stretch and none without one; the model does not check that, and takes each report it is given by the
channel's state (log entry 32). -/
def Dev.frame (d : Dev) (ch : ChanId) (f : RxFrame) : Dev :=
  if ¬ RxFrame.formed f then d.malformed ch
  else
    let d := d.modChan ch Channel.report
    match (d.chan ch).state, (d.chan ch).attempt, (d.chan ch).listening with
    | .receiving, some a, _ =>
      if a.provisional = none then d.modChan ch fun c => c.endResponse (classify a f) (some d.now) else d
    | .listening, _, some l =>
      (match RxFrame.validAlert f with
        | some alert => d.hearAlert ch l.window alert
        | none => d.modChan ch (Channel.garbledReport none)).stretchOver ch
    | _, _, _ => d

/-! ## The commands -/

/-- LINE_ACTIVITY_START (R2). -/
def execLineActivityStart (t : Moment) (ch : ChanId) (s : State) : Host.Outcome State Fault Refusal :=
  .next (s.onDev fun d => (d.tick t).lineActivity ch)

/-- LINE_QUIET (R2). -/
def execLineQuiet (t : Moment) (ch : ChanId) (s : State) : Host.Outcome State Fault Refusal :=
  .next (s.onDev fun d => (d.tick t).lineQuiet ch)

/-- FRAME_REPORT (R2). -/
def execFrameReport (t : Moment) (ch : ChanId) (f : RxFrame) (s : State) : Host.Outcome State Fault Refusal :=
  .next (s.onDev fun d => (d.tick t).frame ch f)

/-- MALFORMED_FRAME_REPORT (R2). -/
def execMalformedFrameReport (t : Moment) (ch : ChanId) (s : State) : Host.Outcome State Fault Refusal :=
  .next (s.onDev fun d => (d.tick t).malformed ch)

/-- NON_FRAME_ACTIVITY (R2). -/
def execNonFrameActivity (t : Moment) (ch : ChanId) (s : State) : Host.Outcome State Fault Refusal :=
  .next (s.onDev fun d => (d.tick t).nonFrame ch)

end Sys2Proof.Machine
end

