-- ==== Sys2Proof/Machine/Timers.lean ====
section
/-! DEFINITION. The channel's own timers (R13, R15, R16, R38 to R42, R113): each takes place at the moment its rule fixes,
which the model computes. A timer that is not running in the state it meets changes nothing (log entry 2). -/

namespace Sys2Proof.Machine

/-! ## Ends of an attempt (R13 to R16) -/

/-- The moment at which the response window of a transaction in AWAITING expires, if one is open (R13). -/
def Channel.windowExpiry (c : Channel) : Option Moment :=
  match c.state, c.attempt with
  | .awaiting, some a => if a.kind = .transaction then some a.windowEnds else none
  | _, _ => none

/-- RESPONSE_WINDOW_EXPIRY (R13): the verdict NONE is final. -/
def Dev.windowExpiry (d : Dev) (ch : ChanId) : Dev :=
  match (d.chan ch).windowExpiry with
  | some due => ((d.tick due).finishAttempt ch .none due false).activityOver ch
  | none => d

/-- What one gap of quiet would make final: the verdict, the moment the activity ended, the moment the gap is full. For a
response it is the verdict of R14, with the gap counted from its end (R15); for a broadcast the gap is counted from its
frame end (R16). None of them ends while the line is active. -/
def Channel.trailingGap (c : Channel) : Option (Verdict × Moment × Moment) :=
  match c.state, c.attempt with
  | .receiving, some a =>
    match a.provisional, a.respEnd with
    | some v, some e => if c.lineActive then none else some (v, e, max e c.lastQuiet + c.gapTime)
    | _, _ => none
  | .awaiting, some a =>
    if a.kind = .broadcast ∧ ¬ c.lineActive then some (.validAck [], a.opened, a.opened + c.gapTime) else none
  | _, _ => none

/-- TRAILING_GAP_ELAPSED (R15, R16): the verdict is final, or the broadcast has ended successfully. -/
def Dev.trailingGap (d : Dev) (ch : ChanId) : Dev :=
  match (d.chan ch).trailingGap with
  | some (v, e, due) => ((d.tick due).finishAttempt ch v e false).activityOver ch
  | none => d

/-! ## Quiet (R38, R42) -/

/-- The moment at which a full gap of quiet is found, for a channel that has waited since `since`, with the line quiet
(R4, R38, R42). -/
def Channel.quietAt (c : Channel) : Moment := max c.since (c.lastQuiet + c.gapTime)

/-- Quiet is found by the expiry of a limit that expires at `due`; at the same moment either may be taken (R39, R42). -/
def Channel.quietBy (c : Channel) (due : Moment) : Bool := !c.lineActive && decide (c.quietAt ≤ due)

/-- The limit expires at `due` and no quiet was found before (R39, R42). -/
def Channel.expires (c : Channel) (due : Moment) : Bool := c.lineActive || decide (due ≤ c.quietAt)

/-- The moment the quiet-wait limit expires (R39). -/
def Channel.quietDue (c : Channel) : Moment := c.since + micros c.quietLimit

/-- The moment the chatter limit expires (R42). -/
def Channel.chatterDue (c : Channel) : Moment := c.since + micros c.chatterLimit

/-- QUIET_FOUND (R38): in QUIET_WAIT the selection is checked again. -/
def Dev.quietFound (d : Dev) (ch : ChanId) : Dev :=
  let c := d.chan ch
  if c.state = .quietWait ∧ c.quietBy c.quietDue then (d.tick c.quietAt).checkSelection ch else d

/-- The activity that led into CHATTER ends at moment `m` (R42, R65): the attempt's verdict is final, GARBLED, with the
indication of line fault when the limit has expired; the activity of a listening is accounted alone. -/
def Dev.endChatter (d : Dev) (ch : ChanId) (m : Moment) (lineFault : Bool) : Dev :=
  if (d.chan ch).attempt.isSome then d.finishAttempt ch .garbled m lineFault
  else d.modChan ch fun c => c.account m

/-- CHATTER_QUIET_FOUND (R42): the channel leaves CHATTER for IDLE, or OFF. -/
def Dev.chatterQuiet (d : Dev) (ch : ChanId) : Dev :=
  let c := d.chan ch
  if c.state = .chatter ∧ c.quietBy c.chatterDue then
    ((d.tick c.quietAt).endChatter ch c.lastQuiet false).activityOver ch
  else d

/-! ## Limits (R39, R41, R42, R113) -/

/-- QUIET_WAIT_LIMIT_EXPIRY (R39): a selected head that waits with its reservation ends LINE_FAULT, the selection is
dropped, and the channel is STUCK. -/
def Dev.quietLimit (d : Dev) (ch : ChanId) : Dev :=
  let c := d.chan ch
  if c.state = .quietWait ∧ c.expires c.quietDue then
    ((d.tick c.quietDue).faultSelected c.selection).enterStuck ch
  else d

/-- CHATTER_LIMIT_EXPIRY (R42): the verdict GARBLED is final with line fault, and the channel is STUCK, or OFF in the
wind-down of R47. -/
def Dev.chatterLimit (d : Dev) (ch : ChanId) : Dev :=
  let c := d.chan ch
  if c.state = .chatter ∧ c.expires c.chatterDue then
    ((d.tick c.chatterDue).endChatter ch c.chatterDue true).enterStuck ch
  else d

/-- The moment at which a response is overlong (R41): 304 bit times and a gap from its activity start, the line still active. -/
def Channel.overlongResponse (c : Channel) : Option Moment :=
  match c.state, c.attempt with
  | .receiving, some a =>
    if c.lineActive then some (a.started + (Config.longestResponse + c.gap) * c.rate.bit) else none
  | _, _ => none

/-- OVERLONG_RESPONSE (R41). -/
def Dev.overlongResponse (d : Dev) (ch : ChanId) : Dev :=
  match (d.chan ch).overlongResponse with
  | some due => (d.tick due).modChan ch (Channel.chatter (max d.now due))
  | none => d

/-- The moment at which the stretch a listening channel hears is overlong, the line still active (R48, R113). -/
def Channel.overlongStretch (c : Channel) : Option Moment :=
  match c.state, c.listening with
  | .listening, some l => if c.lineActive then l.stretch.map fun t => t + (Config.longestAlert + c.gap) * c.rate.bit else none
  | _, _ => none

/-- OVERLONG_ALERT_STRETCH (R113): ALERT_GARBLED advances, unless the stretch has been counted already (R112, log entry 8),
and the channel is in CHATTER. -/
def Dev.overlongStretch (d : Dev) (ch : ChanId) : Dev :=
  match (d.chan ch).overlongStretch with
  | some due => (d.tick due).modChan ch fun c => c.countGarbled.toChatter (max d.now due)
  | none => d

/-! ## The end of the channel's own frame (R40, R57) -/

/-- The channel releases the line at the end of its own frame, which is the quiet transition from which the next gap counts
(R40). Activity that the receiver has reported meanwhile is a station's and goes on: no gap is found before it is reported
quiet (R4, log entry 23). -/
def Channel.release (c : Channel) : Channel :=
  { c with lastQuiet := c.sendEnds, tx := none }

/-- The response window or the trailing gap opens at the end of the frame (R13, R16, R40); a transaction's window is its
station's, read now (R13). -/
def Channel.await (window : Option Nat) (c : Channel) : Channel :=
  { c with state := .awaiting, attempt := c.attempt.map fun a => { a with opened := c.sendEnds, respWindow := window } }

/-- The ALERT window of a CALL that has been sent is still current, and does not end with the frame (R57). -/
def Channel.canListen (c : Channel) (id : WindowId) : Bool :=
  decide (c.sendEnds < id.ends) && c.window.any fun w => w.cycle == id.cycle && w.index == id.index

/-- The channel listens for an ALERT window (R48). A stretch that began while the CALL was being sent and lasts is a stretch of
this window, from its activity start on (R45, R48, R114; log entry 23). -/
def Channel.listen (id : WindowId) (c : Channel) : Channel :=
  let l : Listening := { window := id, ended := false, stretch := none }
  let c := { c with state := .listening, listening := some l }
  if c.lineActive then c.hearStretch l c.activeSince else c

/-- A CALL frame has ended (R40, R48, R57): the channel listens until its ALERT window ends; a parked CHANNEL_DISABLE or a
halt ends the activity here. -/
def Dev.callSent (d : Dev) (ch : ChanId) (id : WindowId) : Dev :=
  let d := d.modChan ch fun c => { c.account c.sendEnds with attempt := none }
  if d.disableParked ch ∨ d.halted ∨ ¬ (d.chan ch).canListen id then d.activityOver ch
  else d.modChan ch (Channel.listen id)

/-- A broadcast's frame has ended: activity present on the line then is activity in the gap, and the channel passes to
CHATTER (R16, log entry 23). -/
def Channel.afterBroadcast (now : Moment) (c : Channel) : Channel := if c.lineActive then c.chatter now else c

/-- FRAME_SENT (R40). -/
def Dev.frameSent (d : Dev) (ch : ChanId) : Dev :=
  match (d.chan ch).state, (d.chan ch).attempt with
  | .sending, some a =>
    let d := (d.tick (d.chan ch).sendEnds).modChan ch Channel.release
    match a.kind with
    | .transaction => d.modChan ch (Channel.await (a.station.map fun st => (d.station ch st).respWindow))
    | .broadcast => d.modChan ch fun c => (c.await none).afterBroadcast d.now
    | .call => d.callSent ch a.window
  | _, _ => d

/-! ## The commands -/

/-- RESPONSE_WINDOW_EXPIRY (R13). -/
def execResponseWindowExpiry (ch : ChanId) (s : State) : Host.Outcome State Fault Refusal :=
  .next (s.onDev fun d => d.windowExpiry ch)

/-- TRAILING_GAP_ELAPSED (R15, R16). -/
def execTrailingGapElapsed (ch : ChanId) (s : State) : Host.Outcome State Fault Refusal :=
  .next (s.onDev fun d => d.trailingGap ch)

/-- QUIET_FOUND (R38). -/
def execQuietFound (ch : ChanId) (s : State) : Host.Outcome State Fault Refusal :=
  .next (s.onDev fun d => d.quietFound ch)

/-- CHATTER_QUIET_FOUND (R42). -/
def execChatterQuietFound (ch : ChanId) (s : State) : Host.Outcome State Fault Refusal :=
  .next (s.onDev fun d => d.chatterQuiet ch)

/-- QUIET_WAIT_LIMIT_EXPIRY (R39). -/
def execQuietWaitLimitExpiry (ch : ChanId) (s : State) : Host.Outcome State Fault Refusal :=
  .next (s.onDev fun d => d.quietLimit ch)

/-- CHATTER_LIMIT_EXPIRY (R42). -/
def execChatterLimitExpiry (ch : ChanId) (s : State) : Host.Outcome State Fault Refusal :=
  .next (s.onDev fun d => d.chatterLimit ch)

/-- OVERLONG_RESPONSE (R41). -/
def execOverlongResponse (ch : ChanId) (s : State) : Host.Outcome State Fault Refusal :=
  .next (s.onDev fun d => d.overlongResponse ch)

/-- OVERLONG_ALERT_STRETCH (R113). -/
def execOverlongAlertStretch (ch : ChanId) (s : State) : Host.Outcome State Fault Refusal :=
  .next (s.onDev fun d => d.overlongStretch ch)

/-- FRAME_SENT (R40). -/
def execFrameSent (ch : ChanId) (s : State) : Host.Outcome State Fault Refusal :=
  .next (s.onDev fun d => d.frameSent ch)

end Sys2Proof.Machine
end

