-- ==== Sys2Proof/Machine/Schedule.lean ====
section
/-! DEFINITION. The schedule's own events (spec file 04): cycle starts and window boundaries at their moments (R51, R53,
R54), and the steps that the table names apart from their cycle start: swap, hold expiry, deadline check (log entry 3). -/

namespace Sys2Proof.Machine

/-- The moment the next cycle starts (R51). -/
def Channel.nextCycle (c : Channel) : Moment := c.cycleStart + c.cycleLength

/-- The cycle counter advances (R52). -/
def Channel.nextNumber (c : Channel) : Channel := { c with cycle := c.cycle + 1 }

/-- CYCLE_START (R53): the counter advances, and steps 2 to 5 follow. -/
def Dev.cycleBegins (d : Dev) (ch : ChanId) : Dev :=
  if (d.chan ch).state = .off then d
  else
    let due := (d.chan ch).nextCycle
    ((d.tick due).modChan ch Channel.nextNumber).cycleSteps ch due

/-- The boundary inside a cycle that ends the current window: the next window's index and the moment (R54). -/
def Channel.nextWindow (c : Channel) : Option (Nat × Moment) :=
  match c.window with
  | some w => if w.index + 1 < c.operational.length then some (w.index + 1, w.ends) else none
  | none => none

/-- WINDOW_START (R54) for a boundary inside a cycle; window 0 starts with its cycle. -/
def Dev.windowBegins (d : Dev) (ch : ChanId) : Dev :=
  if (d.chan ch).state = .off then d
  else match (d.chan ch).nextWindow with
    | some (i, due) =>
      let d := d.tick due
      d.takeWindow ch ((d.chan ch).windowAt i due)
    | none => d

/-- SCHEDULE_SWAP (R60, R61): the swap of a parked commit is made only at a cycle start, whose steps are one event (R53).
The step is that cycle start, and it takes place only when a commit is parked that is due at it (log entry 3). -/
def Dev.swapEvent (d : Dev) (ch : ChanId) : Dev :=
  if ((d.modChan ch Channel.nextNumber).dueCommit ch).isSome then d.cycleBegins ch else d

/-- HOLD_EXPIRY (R26): a hold whose expiry is not after the channel's cycle number is removed. -/
def Dev.holdExpires (d : Dev) (ch : ChanId) (st : StationId) : Dev :=
  if (d.chan ch).state = .off then d else d.updateStation ch st (StationRec.expire (d.chan ch).cycle)

/-- DEADLINE_PASSED (R88): the deadline check of one head against the bound channel's cycle number. -/
def Dev.deadlineEvent (d : Dev) (r : RingId) : Dev :=
  match (d.ring r).binding with
  | some b => if (d.chan b.channel).state = .off then d else d.checkDeadline r
  | none => d

/-! ## The commands -/

/-- CYCLE_START (R53). -/
def execCycleStart (ch : ChanId) (s : State) : Host.Outcome State Fault Refusal :=
  .next (s.onDev fun d => d.cycleBegins ch)

/-- WINDOW_START (R54). -/
def execWindowStart (ch : ChanId) (s : State) : Host.Outcome State Fault Refusal :=
  .next (s.onDev fun d => d.windowBegins ch)

/-- SCHEDULE_SWAP (R61). -/
def execScheduleSwap (ch : ChanId) (s : State) : Host.Outcome State Fault Refusal :=
  .next (s.onDev fun d => d.swapEvent ch)

/-- HOLD_EXPIRY (R26). -/
def execHoldExpiry (ch : ChanId) (st : StationId) (s : State) : Host.Outcome State Fault Refusal :=
  .next (s.onDev fun d => d.holdExpires ch st)

/-- DEADLINE_PASSED (R88). -/
def execDeadlinePassed (r : RingId) (s : State) : Host.Outcome State Fault Refusal :=
  .next (s.onDev fun d => d.deadlineEvent r)

end Sys2Proof.Machine
end

