-- ==== Sys2Proof/Machine/Control.lean ====
section
/-! DEFINITION. The 21 control commands, each taken by its target as one event (R151): the ring and completion ring
commands (R78 to R85, R132), the channel commands (R34, R44 to R46), the schedule commands (R58, R59, R63), the station
commands (R29 to R32), the alert commands (R124 to R127), NOP and COUNTERS_READ (R160, R161).

A command is taken when the control engine holds its record in ACTING (R148); otherwise its step changes nothing but the
time base (log entry 2). -/

namespace Sys2Proof.Machine

/-- The command whose record is in hand and which its target has not yet taken (R151). -/
def Dev.acting (d : Dev) : Option Command :=
  if d.engine.phase = .acting ∧ ¬ d.engine.answering then d.engine.inHand.bind commandOf else none

/-- The command in hand parks; the engine, IDLE again, judges R148 (R151). -/
def Dev.park (d : Dev) (note : ParkNote) : Dev := (d.parkInHand note).judgeEngine

/-- The command in hand has been taken, and is answered when a status area write has completed (R78, R132). -/
def Dev.answerLater (d : Dev) : Dev := d.setEngine { d.engine with answering := true }

/-! ## NOP (R160) -/

/-- NOP: the detail is the number of commands on the list in state WAITING (R160). -/
def Dev.takeNop (d : Dev) : Dev :=
  match d.acting with
  | some .nop => d.completeInHand .done (d.engine.parked.countP Parked.waiting)
  | _ => d

/-! ## Ring commands (R78 to R85) -/

/-- A RING_FLUSH is in progress on the ring: every further ring command for it completes BUSY (R85). -/
def Dev.flushing (d : Dev) (r : RingId) : Bool := d.hasParked (Command.isRingFlush r)

/-- RING_SETUP may write the setup: DISABLED, or STOPPED with an empty staging queue and no read in flight (R78). -/
def TransRing.settable (x : TransRing) : Bool :=
  x.state == .disabled || (x.state == .stopped && x.staging.isEmpty && x.reading.isNone)

/-- RING_SETUP (R78). -/
def Dev.setupRing (d : Dev) (r : RingId) (base : Addr) (b : Binding) : Dev :=
  if d.flushing r then d.completeInHand .busy
  else if (d.ring r).settable then
    ((d.setRing r { state := .stopped, base := base, binding := some b }).answerLater).publish (fieldRing r) 0 .ringSetup
  else d.completeInHand .badState

def Dev.takeRingSetup (d : Dev) : Dev :=
  match d.acting with
  | some (.ringSetup r base b) => d.setupRing r base b
  | _ => d

/-- RING_START (R79). -/
def Dev.startRing (d : Dev) (r : RingId) : Dev :=
  if d.flushing r then d.completeInHand .busy
  else if (d.ring r).state = .stopped then
    (((d.modRing r fun x => { x with state := .active }).askReservation r).judgeFetch r).completeInHand .done
  else d.completeInHand .badState

def Dev.takeRingStart (d : Dev) : Dev :=
  match d.acting with
  | some (.ringStart r) => d.startRing r
  | _ => d

/-- RING_STOP (R80 to R82). -/
def Dev.stopRing (d : Dev) (r : RingId) : Dev :=
  if d.flushing r then d.completeInHand .busy
  else match (d.ring r).state with
    | .disabled => d.completeInHand .badState
    | .stopped => d.completeInHand .done
    | .active => (((d.modRing r fun x => { x with state := .stopping }).parkInHand .none).judgeStopping r).judgeEngine
    | .stopping => d.completeInHand .busy
    | .faulted =>
      if d.hasParked (Command.isRingStop r) then d.completeInHand .busy
      else if (d.ring r).staging = [] then (d.modRing r fun x => { x with state := .stopped }).completeInHand .done
      else d.park .none

def Dev.takeRingStop (d : Dev) : Dev :=
  match d.acting with
  | some (.ringStop r) => d.stopRing r
  | _ => d

/-- RING_FLUSH (R83): the host post index is noted, and the staging queue is worked through from the head. With nothing staged
and nothing to skip it completes DONE at once: in hand, and without a write of the consumer index (log entry 31). -/
def Dev.flushRing (d : Dev) (r : RingId) : Dev :=
  if d.flushing r then d.completeInHand .busy
  else
    let x := d.ring r
    if x.state ≠ .stopped then d.completeInHand .badState
    else if x.staging = [] ∧ x.fetch = x.post then d.completeInHand .done
    else
      let d := d.parkInHand (.flush x.post)
      (if x.staging = [] then d.judgeFlush r else d.askReservation r).judgeEngine

def Dev.takeRingFlush (d : Dev) : Dev :=
  match d.acting with
  | some (.ringFlush r) => d.flushRing r
  | _ => d

/-! ## CRING_SETUP (R131, R132) -/

/-- CRING_SETUP is accepted in DISABLED, and in FAULTED once no reservation is left (R131). -/
def Cring.settable (x : Cring) : Bool :=
  x.state == .disabled || (x.state == .faulted && x.slots.reservations == 0)

/-- CRING_SETUP (R132). -/
def Dev.setupCring (d : Dev) (c : CrId) (base : Addr) (size : Nat) : Dev :=
  let x := d.cring c
  if x.settable then
    let d := d.setCring c { state := .active, slots := { base := base, size := size }, waiters := x.waiters }
    ((d.answerLater).publish (fieldCring c) 0 (.cringSetup x.dropped)).giveRoom c
  else d.completeInHand .badState

def Dev.takeCringSetup (d : Dev) : Dev :=
  match d.acting with
  | some (.cringSetup c base size) => d.setupCring c base size
  | _ => d

/-! ## Channel commands (R34, R44 to R46) -/

/-- CHANNEL_CONFIG (R34): accepted in OFF alone. -/
def Dev.configChannel (d : Dev) (ch : ChanId) (rate : BusRate) (gap quiet chatter : Nat) : Dev :=
  if (d.chan ch).state = .off then
    (d.modChan ch fun c => { c with rate := rate, gap := gap, quietLimit := quiet, chatterLimit := chatter }).completeInHand
      .done
  else d.completeInHand .badState

def Dev.takeChannelConfig (d : Dev) : Dev :=
  match d.acting with
  | some (.channelConfig ch rate gap quiet chatter) => d.configChannel ch rate gap quiet chatter
  | _ => d

/-- CHANNEL_ENABLE (R44): the cycle number, the holds when a number is given, the first cycle start, IDLE. -/
def Dev.enableChannel (d : Dev) (ch : ChanId) (start : Option Cycle) : Dev :=
  if (d.chan ch).state = .off ∧ (d.chan ch).operational ≠ [] then
    let d := d.modChan ch fun c => { c with cycle := start.getD (c.cycle + 1) }
    let d := if start.isSome then d.dropHolds ch else d
    ((d.cycleSteps ch d.now).enterIdle ch).completeInHand .done
  else d.completeInHand .badState

def Dev.takeChannelEnable (d : Dev) : Dev :=
  match d.acting with
  | some (.channelEnable ch start) => d.enableChannel ch start
  | _ => d

/-- CHANNEL_DISABLE (R45). -/
def Dev.disableChannel (d : Dev) (ch : ChanId) : Dev :=
  let c := d.chan ch
  if d.disableParked ch then d.completeInHand .busy
  else if c.state = .off then d.completeInHand .done
  else if c.state = .stuck then d.completeInHand .badState
  else if c.stopsAtOnce then (d.modChan ch Channel.toOff).completeInHand .done
  else d.park .none

def Dev.takeChannelDisable (d : Dev) : Dev :=
  match d.acting with
  | some (.channelDisable ch) => d.disableChannel ch
  | _ => d

/-- Steps 1 and 2 of CHANNEL_RESET (R46): a frame being sent is cut off, and this moment is the last quiet transition (log
entry 22); the attempt record, the selection and the listening are dropped. -/
def Channel.abandon (now : Moment) (c : Channel) : Channel :=
  let c := if c.state = .sending then { c with lastQuiet := now } else c
  { c with attempt := none, selection := none, tx := none, listening := none, activity := none }

/-- R28: every record of the channel is changed; the reports reach a channel that is by then OFF. -/
def Dev.resetStations (d : Dev) (ch : ChanId) : Dev :=
  allStations.foldl (fun d st => d.setStation ch st (d.station ch st).channelReset) d

/-- The head of an abandoned attempt completes ABORTED, and a STOPPING ring is judged (R46 step 4, R81, R103). -/
def Dev.abortHead (d : Dev) (r : RingId) : Dev :=
  match d.headOf r with
  | some v => (d.assignFinal r (d.finalOf v .aborted)).judgeStopping r
  | none => d

/-- CHANNEL_RESET (R46). -/
def Dev.resetChannel (d : Dev) (ch : ChanId) : Dev :=
  let attempt := (d.chan ch).attempt
  let d := d.modChan ch (Channel.abandon d.now)
  let d := d.resetStations ch
  let d := match attempt.bind Attempt.station with
    | some st => d.applyParkedStation ch st
    | none => d
  let d := match attempt.bind Attempt.ring with
    | some r => d.abortHead r
    | none => d
  let d := d.completeParked (Command.isCommit ch) .cancelled
  let d := d.completeParked (Command.isDisable ch) .done
  (d.modChan ch Channel.toOff).completeInHand .done

def Dev.takeChannelReset (d : Dev) : Dev :=
  match d.acting with
  | some (.channelReset ch) => d.resetChannel ch
  | _ => d

/-! ## Schedule commands (R58, R59, R63) -/

/-- A SCHEDULE_COMMIT is parked on the channel. -/
def Dev.commitParked (d : Dev) (ch : ChanId) : Bool := d.hasParked (Command.isCommit ch)

/-- Windows are written into the pending slots from `start` upwards (R58); slots past the 32nd do not exist. -/
def writeSlots (slots : Vector (Option Window) 32) : Nat → List Window → Vector (Option Window) 32
  | _, [] => slots
  | start, w :: rest => writeSlots (slots.setIfInBounds start (some w)) (start + 1) rest

/-- SCHEDULE_WRITE (R58). -/
def Dev.writeSchedule (d : Dev) (ch : ChanId) (start : Nat) (windows : List Window) : Dev :=
  if d.commitParked ch then d.completeInHand .busy
  else (d.modChan ch fun c => { c with slots := writeSlots c.slots start windows }).completeInHand .done

def Dev.takeScheduleWrite (d : Dev) : Dev :=
  match d.acting with
  | some (.scheduleWrite ch start windows) => d.writeSchedule ch start windows
  | _ => d

/-- SCHEDULE_COMMIT (R59): marked late when its switch cycle is before the current number. -/
def Dev.commitSchedule (d : Dev) (ch : ChanId) (length : Nat) (switch : Cycle) : Dev :=
  let c := d.chan ch
  if (c.slots.toList.take length).any Option.isNone then d.completeInHand .invalidParam
  else if d.commitParked ch then d.completeInHand .busy
  else if c.state = .off then (d.modChan ch (Channel.swap length)).completeInHand .done
  else d.park (.commit (Cycle.before switch c.cycle))

def Dev.takeScheduleCommit (d : Dev) : Dev :=
  match d.acting with
  | some (.scheduleCommit ch length switch) => d.commitSchedule ch length switch
  | _ => d

/-- SCHEDULE_CANCEL (R63). -/
def Dev.cancelSchedule (d : Dev) (ch : ChanId) : Dev :=
  if d.commitParked ch then (d.completeParked (Command.isCommit ch) .cancelled).completeInHand .done
  else d.completeInHand .badState

def Dev.takeScheduleCancel (d : Dev) : Dev :=
  match d.acting with
  | some (.scheduleCancel ch) => d.cancelSchedule ch
  | _ => d

/-! ## Station commands (R29 to R32) -/

/-- STATION_SET (R29, R31). What the station change report causes comes before the command's own CONTROL entry (log entry
34). -/
def Dev.setStationRecord (d : Dev) (ch : ChanId) (st : StationId) (setting : StationSetting) : Dev :=
  if d.hasParked (Command.isStationSet ch st) then d.completeInHand .busy
  else if (d.station ch st).mark then d.park .none
  else (d.updateStation ch st (StationRec.set setting)).completeInHand .done

def Dev.takeStationSet (d : Dev) : Dev :=
  match d.acting with
  | some (.stationSet ch st setting) => d.setStationRecord ch st setting
  | _ => d

/-- STATION_READ (R32). -/
def Dev.takeStationRead (d : Dev) : Dev :=
  match d.acting with
  | some (.stationRead ch st) => d.completeInHand .done 0 (d.station ch st).bytes
  | _ => d

/-- STATION_RELEASE (R30, R31). What the station change report causes comes before the command's own CONTROL entry (log
entry 34). -/
def Dev.releaseStation (d : Dev) (ch : ChanId) (st : StationId) : Dev :=
  if d.hasParked (Command.isStationRelease ch st) then d.completeInHand .busy
  else if (d.station ch st).mark then d.park .none
  else (d.updateStation ch st StationRec.release).completeInHand .done

def Dev.takeStationRelease (d : Dev) : Dev :=
  match d.acting with
  | some (.stationRelease ch st) => d.releaseStation ch st
  | _ => d

/-! ## Alert commands (R124 to R127) -/

def Dev.setAlert (d : Dev) (u : AlertUnit) : Dev := { d with alert := u }

/-- FILTER_WRITE (R124). -/
def Dev.takeFilterWrite (d : Dev) : Dev :=
  match d.acting with
  | some (.filterWrite index entry) =>
    (d.setAlert { d.alert with table := d.alert.table.set index entry }).completeInHand .done
  | _ => d

/-- FILTER_BINS (R125). -/
def Dev.takeFilterBins (d : Dev) : Dev :=
  match d.acting with
  | some (.filterBins bins) => (d.setAlert { d.alert with bins := bins }).completeInHand .done
  | _ => d

/-- FILTER_MODE (R126). -/
def Dev.takeFilterMode (d : Dev) : Dev :=
  match d.acting with
  | some (.filterMode ch mode) =>
    (d.setAlert { d.alert with modes := d.alert.modes.set ch mode }).completeInHand .done
  | _ => d

/-- ALERT_MAP (R127). -/
def Dev.takeAlertMap (d : Dev) : Dev :=
  match d.acting with
  | some (.alertMap map) => (d.setAlert { d.alert with map := map }).completeInHand .done
  | _ => d

/-! ## COUNTERS_READ (R161) -/

/-- COUNTERS_READ (R161): the eight counters as they stand and the channel state; the clear flag returns them to 0. -/
def Dev.readCounters (d : Dev) (ch : ChanId) (clear : Bool) : Dev :=
  let c := d.chan ch
  (d.modChan ch fun c => { c with counters := if clear then {} else c.counters }).completeInHand
    .done c.state.code c.counters.bytes

def Dev.takeCountersRead (d : Dev) : Dev :=
  match d.acting with
  | some (.countersRead ch clear) => d.readCounters ch clear
  | _ => d

/-! ## The commands -/

/-- NOP (R160). -/
def execNop (t : Moment) (s : State) : Host.Outcome State Fault Refusal :=
  .next (s.onDev fun d => (d.tick t).takeNop)

/-- RING_SETUP (R78). -/
def execRingSetup (t : Moment) (s : State) : Host.Outcome State Fault Refusal :=
  .next (s.onDev fun d => (d.tick t).takeRingSetup)

/-- RING_START (R79). -/
def execRingStart (t : Moment) (s : State) : Host.Outcome State Fault Refusal :=
  .next (s.onDev fun d => (d.tick t).takeRingStart)

/-- RING_STOP (R80). -/
def execRingStop (t : Moment) (s : State) : Host.Outcome State Fault Refusal :=
  .next (s.onDev fun d => (d.tick t).takeRingStop)

/-- RING_FLUSH (R83). -/
def execRingFlush (t : Moment) (s : State) : Host.Outcome State Fault Refusal :=
  .next (s.onDev fun d => (d.tick t).takeRingFlush)

/-- CRING_SETUP (R132). -/
def execCringSetup (t : Moment) (s : State) : Host.Outcome State Fault Refusal :=
  .next (s.onDev fun d => (d.tick t).takeCringSetup)

/-- CHANNEL_CONFIG (R34). -/
def execChannelConfig (t : Moment) (s : State) : Host.Outcome State Fault Refusal :=
  .next (s.onDev fun d => (d.tick t).takeChannelConfig)

/-- CHANNEL_ENABLE (R44). -/
def execChannelEnable (t : Moment) (s : State) : Host.Outcome State Fault Refusal :=
  .next (s.onDev fun d => (d.tick t).takeChannelEnable)

/-- CHANNEL_DISABLE (R45). -/
def execChannelDisable (t : Moment) (s : State) : Host.Outcome State Fault Refusal :=
  .next (s.onDev fun d => (d.tick t).takeChannelDisable)

/-- CHANNEL_RESET (R46). -/
def execChannelReset (t : Moment) (s : State) : Host.Outcome State Fault Refusal :=
  .next (s.onDev fun d => (d.tick t).takeChannelReset)

/-- SCHEDULE_WRITE (R58). -/
def execScheduleWrite (t : Moment) (s : State) : Host.Outcome State Fault Refusal :=
  .next (s.onDev fun d => (d.tick t).takeScheduleWrite)

/-- SCHEDULE_COMMIT (R59). -/
def execScheduleCommit (t : Moment) (s : State) : Host.Outcome State Fault Refusal :=
  .next (s.onDev fun d => (d.tick t).takeScheduleCommit)

/-- SCHEDULE_CANCEL (R63). -/
def execScheduleCancel (t : Moment) (s : State) : Host.Outcome State Fault Refusal :=
  .next (s.onDev fun d => (d.tick t).takeScheduleCancel)

/-- STATION_SET (R29). -/
def execStationSet (t : Moment) (s : State) : Host.Outcome State Fault Refusal :=
  .next (s.onDev fun d => (d.tick t).takeStationSet)

/-- STATION_READ (R32). -/
def execStationRead (t : Moment) (s : State) : Host.Outcome State Fault Refusal :=
  .next (s.onDev fun d => (d.tick t).takeStationRead)

/-- STATION_RELEASE (R30). -/
def execStationRelease (t : Moment) (s : State) : Host.Outcome State Fault Refusal :=
  .next (s.onDev fun d => (d.tick t).takeStationRelease)

/-- FILTER_WRITE (R124). -/
def execFilterWrite (t : Moment) (s : State) : Host.Outcome State Fault Refusal :=
  .next (s.onDev fun d => (d.tick t).takeFilterWrite)

/-- FILTER_BINS (R125). -/
def execFilterBins (t : Moment) (s : State) : Host.Outcome State Fault Refusal :=
  .next (s.onDev fun d => (d.tick t).takeFilterBins)

/-- FILTER_MODE (R126). -/
def execFilterMode (t : Moment) (s : State) : Host.Outcome State Fault Refusal :=
  .next (s.onDev fun d => (d.tick t).takeFilterMode)

/-- ALERT_MAP (R127). -/
def execAlertMap (t : Moment) (s : State) : Host.Outcome State Fault Refusal :=
  .next (s.onDev fun d => (d.tick t).takeAlertMap)

/-- COUNTERS_READ (R161). -/
def execCountersRead (t : Moment) (s : State) : Host.Outcome State Fault Refusal :=
  .next (s.onDev fun d => (d.tick t).takeCountersRead)

end Sys2Proof.Machine
end

