-- ==== Sys2Proof/Machine/Memory.lean ====
section
/-! DEFINITION. The image of what the part has written into host memory: a list of address and byte pairs whose addresses
rise strictly. An address that is not listed is one the part has not written, and reads as none. -/

namespace Sys2Proof.Machine

/-- The canonical form: addresses strictly rising. -/
abbrev Memory.wf (m : List Host.Cell) : Prop :=
  m.Pairwise fun a b => a.1 < b.1

/-- The byte last written at an address, if the part has written one. -/
def Memory.read (m : List Host.Cell) (a : Nat) : Option Byte :=
  (m.find? fun c => c.1 == a).map Prod.snd

/-- Write one byte, in its place. -/
def Memory.write (a : Nat) (b : Byte) : List Host.Cell → List Host.Cell
  | [] => [(a, b)]
  | c :: m =>
    if a < c.1 then (a, b) :: c :: m
    else if a = c.1 then (a, b) :: m
    else c :: Memory.write a b m

/-- Write bytes at rising addresses from `a` on. -/
def Memory.writeBytes (a : Nat) : List Byte → List Host.Cell → List Host.Cell
  | [], m => m
  | b :: bs, m => Memory.writeBytes (a + 1) bs (Memory.write a b m)

end Sys2Proof.Machine
end

