-- ==== Sys2Proof/Machine/MemoryPort.lean ====
section
/-! DEFINITION. The ends of the memory port's operations (R171): root, transaction and control record reads, entry writes
and status area writes, with success or failure. While RESETTING they only end: their outcome has no effect (R170). -/

namespace Sys2Proof.Machine

/-- An operation issued before the reset ends (R170). -/
def Dev.drainOne (d : Dev) (p : PortOp → Bool) : Dev := d.setPort { d.port with drain := d.port.drain.eraseP p }

def PortOp.isRoot : PortOp → Bool
  | .rootRead _ _ => true
  | _ => false

def PortOp.isRecord (r : RingId) : PortOp → Bool
  | .recordRead x _ _ => x == r
  | _ => false

def PortOp.isControl : PortOp → Bool
  | .controlRead _ _ => true
  | _ => false

def PortOp.isEntry (ring : EntryRing) : PortOp → Bool
  | .entryWrite x _ _ => x == ring
  | _ => false

def PortOp.isStatus (f : FieldId) : PortOp → Bool
  | .statusWrite x _ _ => x == f
  | _ => false

/-! ## The root record read (R164) -/

/-- The root record is read (R164 steps 3 and 4). -/
def Dev.rootData (d : Dev) (data : Record) : Dev :=
  if d.resetting then d.drainOne PortOp.isRoot
  else match d.port.start with
    | .reading _ _ =>
      if rootOk data then
        let root := RootRecord.ofRecord data
        let d := d.setPort { d.port with start := .publishing root 2, statusAddr := root.statusAddr }
        (d.publish fieldCtl 0 .start).publish fieldCcr 0 .start
      else d.halt .rootInvalid
    | _ => d

/-- The root record read fails (R164 step 2). -/
def Dev.rootError (d : Dev) : Dev :=
  if d.resetting then d.drainOne PortOp.isRoot
  else match d.port.start with
    | .reading _ _ => d.halt .rootRead
    | _ => d

/-! ## Transaction record reads (R72, R84) -/

/-- A transaction record read ends with data (R72). -/
def Dev.recordData (d : Dev) (r : RingId) (data : Record) : Dev :=
  if d.resetting then d.drainOne (PortOp.isRecord r)
  else
    let x := d.ring r
    match x.reading, x.binding with
    | some read, some b =>
      let d := d.setRing r { x with
        reading := none, staging := x.staging ++ [stage read.slot data], fetch := advance b.size x.fetch 1 }
      let d := if x.staging = [] then d.newHead r else d
      (d.judgeFetch r).judgeStopping r
    | _, _ => d

/-- A transaction record read ends with an error (R84). -/
def Dev.recordError (d : Dev) (r : RingId) : Dev :=
  if d.resetting then d.drainOne (PortOp.isRecord r)
  else
    let x := d.ring r
    match x.reading with
    | some _ =>
      let d := d.setRing r { x with reading := none, state := if x.state = .active then .faulted else x.state }
      (d.enterEvent .ringFault r.val).judgeStopping r
    | none => d

/-! ## Control record reads (R148, R149) -/

/-- A control record read ends with data: the record is taken and checked, and completes or is handed to its target
(R148). While HALTED the data is not taken (R149), and the engine is RESERVED, as it still holds its reservation (log
entry 28). -/
def Dev.controlData (d : Dev) (data : Record) : Dev :=
  if d.resetting then d.drainOne PortOp.isControl
  else if d.engine.phase ≠ .reading then d
  else if d.halted then d.setEngine { d.engine with phase := .reserved }
  else
    let read := advance d.engine.size d.engine.read 1
    let d := d.setEngine { d.engine with inHand := some data, read := read, phase := .acting, answering := false }
    let d := d.publish fieldCtl read .plain
    match checkRecord data with
    | .pass _ => d
    | .fail status => d.completeInHand status

/-- A control record read ends with an error: the part halts, the reservation stays held (R148), and the phase is RESERVED
(log entry 28). -/
def Dev.controlError (d : Dev) : Dev :=
  if d.resetting then d.drainOne PortOp.isControl
  else if d.engine.phase ≠ .reading then d
  else (d.setEngine { d.engine with phase := .reserved }).halt .controlRead

/-! ## The read completion limit (R171) -/

/-- The moment a read in flight was issued. -/
def Dev.readIssued (d : Dev) (op : ReadOp) : Option Moment :=
  if d.resetting then
    d.port.drain.findSome? fun x =>
      match op, x with
      | .root, .rootRead _ t => some t
      | .record r, .recordRead y _ t => if y = r then some t else none
      | .control, .controlRead _ t => some t
      | _, _ => none
  else match op with
    | .root => match d.port.start with
      | .reading _ t => some t
      | _ => none
    | .record r => (d.ring r).reading.map SlotRead.issued
    | .control => if d.engine.phase = .reading then some d.engine.issued else none

/-- The limit expires on a read: it fails (R171). -/
def Dev.readLimit (d : Dev) (op : ReadOp) : Dev :=
  match d.readIssued op with
  | none => d
  | some t =>
    let d := d.tick (t + Config.readCompletionLimit)
    match op with
    | .root => d.rootError
    | .record r => d.recordError r
    | .control => d.controlError

/-! ## Entry writes (R137, R140, R142, R145) -/

/-- Step 2 of R137: the oldest entry is written, its reservation or claim ends, the producer index advances. -/
def Slots.written (s : Slots) : Slots :=
  match s.posting with
  | [] => s
  | p :: rest =>
    { s with posting := rest, producer := advance s.size s.producer 1, stage := .publishing p.source
             reservations := if p.source.claims then s.reservations else s.reservations - 1 }

/-- The slots of an entry ring. -/
def Dev.slotsOf (d : Dev) : EntryRing → Slots
  | .cr c => (d.cring c).slots
  | .ccr => d.ccr.slots

def Dev.setSlots (d : Dev) (s : Slots) : EntryRing → Dev
  | .cr c => d.modCring c fun x => { x with slots := s }
  | .ccr => d.setCcr { d.ccr with slots := s }

/-- The status area field of an entry ring's producer index (R166). -/
def producerField : EntryRing → FieldId
  | .cr c => fieldCring c
  | .ccr => fieldCcr

/-- An entry write completes (R137 steps 2 and 3). While HALTED nothing follows the write (R145, log entry 9). -/
def Dev.entryEnd (d : Dev) (ring : EntryRing) : Dev :=
  if d.resetting then d.drainOne (PortOp.isEntry ring)
  else if (d.slotsOf ring).stage ≠ .writing then d
  else if d.halted then d.setSlots { d.slotsOf ring with stage := .idle } ring
  else
    let s := (d.slotsOf ring).written
    (d.setSlots s ring).publish (producerField ring) s.producer (.publish ring)

/-- A ring whose entry write failed (R140 steps 1 to 4): every queued entry is discarded and counted dropped, and so is
the ALERTS_LOST entry that a lost-alert count would have made; the occupied count becomes 0. -/
def Cring.fail (x : Cring) : Cring where
  state := .faulted
  slots := { x.slots with
    posting := [], stage := .idle, consumer := x.slots.producer
    reservations := x.slots.reservations - x.slots.posting.countP fun p => !p.source.claims }
  waiters := x.waiters
  lost := 0
  dropped := satAdd Config.countCap x.dropped (x.slots.posting.length + if 0 < x.lost then 1 else 0)

/-- The done reports of discarded entries (R140). -/
def Dev.reportDiscarded (d : Dev) (posting : List Posting) : Dev :=
  posting.foldl
    (fun d p => match p.source with
      | .transaction r => d.doneReport r
      | _ => d)
    d

/-- An entry write to CR0 to CR3 fails (R140). -/
def Dev.entryError (d : Dev) (c : CrId) : Dev :=
  if d.resetting then d.drainOne (PortOp.isEntry (.cr c))
  else
    let x := d.cring c
    if x.slots.stage ≠ .writing then d
    else (((d.setCring c x.fail).reportDiscarded x.slots.posting).enterEvent .cringFault c.val).giveRoom c

/-- A CCR entry write fails: the part halts, and nothing of the queue is posted (R142). -/
def Dev.ccrError (d : Dev) : Dev :=
  if d.resetting then d.drainOne (PortOp.isEntry .ccr)
  else if d.ccr.slots.stage ≠ .writing then d
  else (d.setCcr { d.ccr with slots := { d.ccr.slots with stage := .idle } }).halt .ccrWrite

/-! ## Status area writes (R164, R167) -/

/-- Step 5 of STARTING: the control ring and the CCR take their setup and the part is RUNNING (R164). -/
def Dev.run (d : Dev) (root : RootRecord) : Dev :=
  let d := d.setEngine { d.engine with base := root.controlBase, size := root.controlSize, post := 0, read := 0 }
  let d := d.setCcr { d.ccr with active := true, slots := { base := root.ccrBase, size := root.ccrSize } }
  (d.setPort { d.port with part := .running, start := .none }).judgeEngine

/-- One of the two writes of STARTING has completed (R164 step 5). -/
def Dev.startWritten (d : Dev) : Dev :=
  match d.port.start with
  | .publishing root left =>
    if left ≤ 1 then d.run root else d.setPort { d.port with start := .publishing root (left - 1) }
  | _ => d

/-- Step 5 of R137: the entry's source learns that it is done. -/
def Dev.entryDone (d : Dev) : EntrySource → Dev
  | .transaction r => d.doneReport r
  | .inHand => (d.setEngine { d.engine with phase := .idle, inHand := none }).judgeEngine
  | .parked record => (d.setEngine { d.engine with parked := dropPosted record d.engine.parked }).judgeEngine
  | .event | .alert | .alertsLost => d

/-- The publication of a ring's producer index has completed (R137 steps 4 and 5): the cause is set, the next entry's
write may start, the source is told. While HALTED none of it happens (R145). -/
def Dev.published (d : Dev) (ring : EntryRing) : Dev :=
  if d.halted then d
  else match (d.slotsOf ring).stage with
    | .publishing source =>
      let d := d.setCause (causeBit ring)
      (d.setSlots ({ d.slotsOf ring with stage := .idle }).begin ring).entryDone source
    | _ => d

/-- The host port's report of a completed write (R167). -/
def Dev.statusReport (d : Dev) : Purpose → Dev
  | .plain => d
  | .start => d.startWritten
  | .publish ring => d.published ring
  | .ringSetup => d.completeInHand .done
  | .flush r skipped => d.completeParked (Command.isRingFlush r) .done skipped
  | .cringSetup dropped => d.completeInHand .done dropped

/-- A status area write completes (R167): the next write of the field is issued, unless HALTED, and the report is made. -/
def Dev.statusEnd (d : Dev) (f : FieldId) : Dev :=
  if d.resetting then d.drainOne (PortOp.isStatus f)
  else match (d.fieldQueue f).inProgress with
    | none => d
    | some q =>
      let next := if d.halted then { d.fieldQueue f with inProgress := none } else (d.fieldQueue f).next
      (d.setField f next).statusReport q.purpose

/-- A status area write fails: the part halts, and no report is made (R167). -/
def Dev.statusError (d : Dev) (f : FieldId) : Dev :=
  if d.resetting then d.drainOne (PortOp.isStatus f)
  else match (d.fieldQueue f).inProgress with
    | none => d
    | some _ => (d.setField f { d.fieldQueue f with inProgress := none }).halt .statusWrite

/-! ## What a completed write leaves in host memory -/

/-- The entry write in progress on a ring: its address and bytes. -/
def Dev.entryInProgress (d : Dev) (ring : EntryRing) : Option (Nat × List Byte) :=
  if d.resetting then
    d.port.drain.findSome? fun x =>
      match x with
      | .entryWrite y a bytes => if y = ring then some (a, bytes) else none
      | _ => none
  else match (d.slotsOf ring).stage, (d.slotsOf ring).posting with
    | .writing, p :: _ => some (slotAddress (d.slotsOf ring).base 64 (d.slotsOf ring).producer, p.entry.bytes)
    | _, _ => none

/-- The status area write in progress on a field: its address and bytes. -/
def Dev.statusInProgress (d : Dev) (f : FieldId) : Option (Nat × List Byte) :=
  if d.resetting then
    d.port.drain.findSome? fun x =>
      match x with
      | .statusWrite y a bytes => if y = f then some (a, bytes) else none
      | _ => none
  else (d.fieldQueue f).inProgress.map fun q => (d.fieldAddress f, leBytes q.value 4)

/-- A completed write reaches host memory. -/
def landWrite (w : Option (Nat × List Byte)) (m : List Host.Cell) : List Host.Cell :=
  match w with
  | some (a, bytes) => Memory.writeBytes a bytes m
  | none => m

/-! ## The commands -/

/-- ROOT_READ_DATA (R164). -/
def execRootReadData (t : Moment) (data : Record) (s : State) : Host.Outcome State Fault Refusal :=
  .next (s.onDev fun d => (d.tick t).rootData data)

/-- ROOT_READ_ERROR (R164). -/
def execRootReadError (t : Moment) (s : State) : Host.Outcome State Fault Refusal :=
  .next (s.onDev fun d => (d.tick t).rootError)

/-- RECORD_READ_DATA (R72). -/
def execRecordReadData (t : Moment) (r : RingId) (data : Record) (s : State) : Host.Outcome State Fault Refusal :=
  .next (s.onDev fun d => (d.tick t).recordData r data)

/-- RECORD_READ_ERROR (R84). -/
def execRecordReadError (t : Moment) (r : RingId) (s : State) : Host.Outcome State Fault Refusal :=
  .next (s.onDev fun d => (d.tick t).recordError r)

/-- CONTROL_READ_DATA (R148). -/
def execControlReadData (t : Moment) (data : Record) (s : State) : Host.Outcome State Fault Refusal :=
  .next (s.onDev fun d => (d.tick t).controlData data)

/-- CONTROL_READ_ERROR (R148). -/
def execControlReadError (t : Moment) (s : State) : Host.Outcome State Fault Refusal :=
  .next (s.onDev fun d => (d.tick t).controlError)

/-- READ_COMPLETION_LIMIT_EXPIRY (R171). -/
def execReadCompletionLimitExpiry (op : ReadOp) (s : State) : Host.Outcome State Fault Refusal :=
  .next (s.onDev fun d => d.readLimit op)

/-- ENTRY_WRITE_END (R137): the 64 bytes stand in host memory. -/
def execEntryWriteEnd (t : Moment) (ring : EntryRing) (s : State) : Host.Outcome State Fault Refusal :=
  .next { s with mem := landWrite (s.dev.entryInProgress ring) s.mem, dev := (s.dev.tick t).entryEnd ring }

/-- ENTRY_WRITE_ERROR (R140). -/
def execEntryWriteError (t : Moment) (c : CrId) (s : State) : Host.Outcome State Fault Refusal :=
  .next (s.onDev fun d => (d.tick t).entryError c)

/-- CCR_WRITE_ERROR (R142). -/
def execCcrWriteError (t : Moment) (s : State) : Host.Outcome State Fault Refusal :=
  .next (s.onDev fun d => (d.tick t).ccrError)

/-- STATUS_WRITE_END (R167): the 4 bytes stand in host memory. -/
def execStatusWriteEnd (t : Moment) (f : FieldId) (s : State) : Host.Outcome State Fault Refusal :=
  .next { s with mem := landWrite (s.dev.statusInProgress f) s.mem, dev := (s.dev.tick t).statusEnd f }

/-- STATUS_WRITE_ERROR (R167). -/
def execStatusWriteError (t : Moment) (f : FieldId) (s : State) : Host.Outcome State Fault Refusal :=
  .next (s.onDev fun d => (d.tick t).statusError f)

end Sys2Proof.Machine
end

