-- ==== Sys2Proof/Machine/Dispatch.lean ====
section
/-! DEFINITION. The dispatch: one arm for each command, in the order of the table. -/

namespace Sys2Proof.Machine

def exec (i : Instr) (s : State) : Host.Outcome State Fault Refusal :=
  match i with
  | .powerOnReset t => Sys2Proof.Machine.execPowerOnReset t s
  | .controllerReset t enable => Sys2Proof.Machine.execControllerReset t enable s
  | .resetEnd t => Sys2Proof.Machine.execResetEnd t s
  | .enableSet t => Sys2Proof.Machine.execEnableSet t s
  | .enableClear t => Sys2Proof.Machine.execEnableClear t s
  | .intStatusClear t value => Sys2Proof.Machine.execIntStatusClear t value s
  | .intMaskWrite t value => Sys2Proof.Machine.execIntMaskWrite t value s
  | .registerWrite t offset bytes value => Sys2Proof.Machine.execRegisterWrite t offset bytes value s
  | .postTransactionRing t ring index => Sys2Proof.Machine.execPostTransactionRing t ring index s
  | .postControlRing t index => Sys2Proof.Machine.execPostControlRing t index s
  | .freeCompletionRing t ring index => Sys2Proof.Machine.execFreeCompletionRing t ring index s
  | .freeCcr t index => Sys2Proof.Machine.execFreeCcr t index s
  | .rootReadData t data => Sys2Proof.Machine.execRootReadData t data s
  | .rootReadError t => Sys2Proof.Machine.execRootReadError t s
  | .recordReadData t ring data => Sys2Proof.Machine.execRecordReadData t ring data s
  | .recordReadError t ring => Sys2Proof.Machine.execRecordReadError t ring s
  | .controlReadData t data => Sys2Proof.Machine.execControlReadData t data s
  | .controlReadError t => Sys2Proof.Machine.execControlReadError t s
  | .readCompletionLimitExpiry op => Sys2Proof.Machine.execReadCompletionLimitExpiry op s
  | .entryWriteEnd t ring => Sys2Proof.Machine.execEntryWriteEnd t ring s
  | .entryWriteError t ring => Sys2Proof.Machine.execEntryWriteError t ring s
  | .ccrWriteError t => Sys2Proof.Machine.execCcrWriteError t s
  | .statusWriteEnd t field => Sys2Proof.Machine.execStatusWriteEnd t field s
  | .statusWriteError t field => Sys2Proof.Machine.execStatusWriteError t field s
  | .reservationGrant t ring => Sys2Proof.Machine.execReservationGrant t ring s
  | .ccrReservationGrant t => Sys2Proof.Machine.execCcrReservationGrant t s
  | .lineActivityStart t ch => Sys2Proof.Machine.execLineActivityStart t ch s
  | .lineQuiet t ch => Sys2Proof.Machine.execLineQuiet t ch s
  | .frameReport t ch frame => Sys2Proof.Machine.execFrameReport t ch frame s
  | .malformedFrameReport t ch => Sys2Proof.Machine.execMalformedFrameReport t ch s
  | .nonFrameActivity t ch => Sys2Proof.Machine.execNonFrameActivity t ch s
  | .responseWindowExpiry ch => Sys2Proof.Machine.execResponseWindowExpiry ch s
  | .trailingGapElapsed ch => Sys2Proof.Machine.execTrailingGapElapsed ch s
  | .quietFound ch => Sys2Proof.Machine.execQuietFound ch s
  | .chatterQuietFound ch => Sys2Proof.Machine.execChatterQuietFound ch s
  | .quietWaitLimitExpiry ch => Sys2Proof.Machine.execQuietWaitLimitExpiry ch s
  | .chatterLimitExpiry ch => Sys2Proof.Machine.execChatterLimitExpiry ch s
  | .overlongResponse ch => Sys2Proof.Machine.execOverlongResponse ch s
  | .overlongAlertStretch ch => Sys2Proof.Machine.execOverlongAlertStretch ch s
  | .frameSent ch => Sys2Proof.Machine.execFrameSent ch s
  | .cycleStart ch => Sys2Proof.Machine.execCycleStart ch s
  | .scheduleSwap ch => Sys2Proof.Machine.execScheduleSwap ch s
  | .holdExpiry ch station => Sys2Proof.Machine.execHoldExpiry ch station s
  | .deadlinePassed ring => Sys2Proof.Machine.execDeadlinePassed ring s
  | .windowStart ch => Sys2Proof.Machine.execWindowStart ch s
  | .nop t => Sys2Proof.Machine.execNop t s
  | .ringSetup t => Sys2Proof.Machine.execRingSetup t s
  | .ringStart t => Sys2Proof.Machine.execRingStart t s
  | .ringStop t => Sys2Proof.Machine.execRingStop t s
  | .ringFlush t => Sys2Proof.Machine.execRingFlush t s
  | .cringSetup t => Sys2Proof.Machine.execCringSetup t s
  | .channelConfig t => Sys2Proof.Machine.execChannelConfig t s
  | .channelEnable t => Sys2Proof.Machine.execChannelEnable t s
  | .channelDisable t => Sys2Proof.Machine.execChannelDisable t s
  | .channelReset t => Sys2Proof.Machine.execChannelReset t s
  | .scheduleWrite t => Sys2Proof.Machine.execScheduleWrite t s
  | .scheduleCommit t => Sys2Proof.Machine.execScheduleCommit t s
  | .scheduleCancel t => Sys2Proof.Machine.execScheduleCancel t s
  | .stationSet t => Sys2Proof.Machine.execStationSet t s
  | .stationRead t => Sys2Proof.Machine.execStationRead t s
  | .stationRelease t => Sys2Proof.Machine.execStationRelease t s
  | .filterWrite t => Sys2Proof.Machine.execFilterWrite t s
  | .filterBins t => Sys2Proof.Machine.execFilterBins t s
  | .filterMode t => Sys2Proof.Machine.execFilterMode t s
  | .alertMap t => Sys2Proof.Machine.execAlertMap t s
  | .countersRead t => Sys2Proof.Machine.execCountersRead t s

end Sys2Proof.Machine
end

