-- ==== Sys2Proof/Safety.lean ====
section
/-! DEFINITION. What the statements about the part are written in: the command in hand and its answer, a step that leaves
the queue and the memory image alone, and the invariants that every step keeps. -/

namespace Sys2Proof

/-- The commands by which a reset can start: POWER_ON_RESET, CONTROLLER_RESET, and a register write, which may be a write
of CONTROL with RESET 1 (R163, R170). -/
def Instr.mayReset : Instr → Bool
  | .powerOnReset _ | .controllerReset _ _ | .registerWrite _ _ _ _ => true
  | _ => false

namespace Machine

/-! ## Outcomes of a command -/

/-- The command ends in a next state that holds the device `d`, the queue and the memory image being unchanged. -/
def Becomes (c : Instr) (s : State) (d : Dev) : Prop := exec c s = .next { s with dev := d }

/-- The command has no effect but that time moves on to `t`: the event cannot take place (log entry 2), or the spec has
the part ignore it. -/
def Ignored (c : Instr) (t : Moment) (s : State) : Prop := Becomes c s { s.dev with now := max s.dev.now t }

/-- The control engine holds the record `r` in ACTING, and it names the command `c` with parameters in range (R148,
R150, R151). -/
def Dev.Taking (d : Dev) (r : Record) (c : Command) : Prop :=
  d.engine.phase = .acting ∧ d.engine.answering = false ∧ d.engine.inHand = some r ∧ checkRecord r = .pass c

/-- The device after the command in hand has been answered (R151, R153): its CONTROL entry, built from the device `d`, is
at the tail of the CCR's posting queue, and the engine is POSTING. -/
def Dev.answered (d : Dev) (r : Record) (status : ControlStatus) (detail : Nat) (payload : List Byte) : Dev :=
  { d with
    engine := { d.engine with phase := .posting, answering := false }
    ccr := { d.ccr with
      slots := d.ccr.slots.post { entry := d.controlEntry r status detail payload, source := .inHand } d.halted } }

/-- The device after the command in hand has parked (R151, R152): it is WAITING at the tail of the list, the engine is
IDLE, and judges R148. -/
def Dev.parkedAtTail (d : Dev) (r : Record) (note : ParkNote) : Dev :=
  (d.setEngine { d.engine with
    phase := .idle, inHand := none
    parked := d.engine.parked ++ [{ record := r, waiting := true, note := note }] }).judgeEngine

/-- The device after the part has entered HALTED with a cause (R165): the HALT interrupt cause is set, a start in progress
has ended, and every channel winds down, in order (R47; what that does is stated by WriteErrorsHalt). -/
def Dev.haltedBy (d : Dev) (cause : HaltCause) : Dev :=
  allFour.foldl Dev.windDown { d with
    port := { d.port with
      part := .halted, haltCause := cause, start := .none, intStatus := d.port.intStatus ||| 0x20 } }

/-! ## Room and events -/

/-- The room of an entry ring by R133, from the occupied count, the reservations, and the claims that the entries of events,
alerts and lost alerts in its posting queue hold (R130). -/
def Slots.roomLeft (x : Slots) : Nat :=
  x.size - 1 - (x.producer + x.size - x.consumer) % x.size - x.reservations -
    (x.posting.filter fun p => p.source ∈ [.event, .alert, .alertsLost]).length

/-- The EVENT entry of an event (R144). -/
def Dev.eventPosting (d : Dev) (e : Event) : Posting where
  entry := {
    kind := .event, source := e.object
    detail := BitVec.ofNat 32 (2 ^ 24 * (match e.kind with
      | .ringFault => 1
      | .cringFault => 2
      | .channelStuck => 3) + e.repeats)
    cycle := if e.kind = .channelStuck then (d.chan (Fin.ofNat 4 e.object)).cycle else 0 }
  source := .event

/-- The events that leave a pending event set at once: with the part RUNNING and the CCR ACTIVE, the oldest, as many as the
CCR has room for (R144). -/
def Dev.eventsOut (d : Dev) (events : List Event) : List Event :=
  if d.port.part = .running ∧ d.ccr.active = true then events.take d.ccr.slots.roomLeft else []

/-- The device with these events to be held, after those that can have left (R143, R144): the others are pending, and the
EVENT entries stand at the tail of the CCR's posting queue, whose oldest entry's write has been issued. -/
def Dev.withEvents (d : Dev) (events : List Event) : Dev :=
  let out := d.eventsOut events
  let slots := d.ccr.slots
  { d with
    engine := { d.engine with events := events.drop out.length }
    ccr := { d.ccr with slots := { slots with
      posting := slots.posting ++ out.map d.eventPosting
      stage := if out ≠ [] ∧ slots.stage = .idle then .writing else slots.stage } } }

/-- A pending event set in which one event has recurred: its repeat count advances, saturating (R143). -/
def recurred (kind : EventKind) (object : Nat) (events : List Event) : List Event :=
  events.map fun e => if e.kind = kind ∧ e.object = object then { e with repeats := min (e.repeats + 1) 65535 } else e

/-! ## Invariants -/

/-- No station is both QUARANTINED and held. -/
def Dev.HoldsSound (d : Dev) : Prop :=
  ∀ ch st, (d.station ch st).hold.isSome → (d.station ch st).presence ≠ .quarantined

/-- A ring's staging queue holds at most 4 records, the read in flight counted with them (R71). -/
def TransRing.Bounded (x : TransRing) : Prop :=
  x.staging.length + (if x.reading.isSome then 1 else 0) ≤ Config.stagingLimit

/-- Every ring's staging queue is bounded. -/
def Dev.StagingBounded (d : Dev) : Prop := ∀ r, (d.ring r).Bounded

/-- The parked-command list holds at most 8 commands, with the one the engine has on its way counted while it is not
IDLE (R148, R152); a record in hand is held in a phase other than IDLE. -/
def Engine.Bounded (e : Engine) : Prop :=
  e.parked.length + (if e.phase = .idle then 0 else 1) ≤ Config.parkedLimit ∧ (e.inHand.isSome → e.phase ≠ .idle)

/-- No event stands twice in the pending event set (R143). -/
def Engine.EventsDistinct (e : Engine) : Prop := e.events.Pairwise fun a b => ¬ a.same b.kind b.object

/-- A start in progress belongs to a part that is not HALTED (R164, R165). -/
def HostPort.StartEnded (p : HostPort) : Prop := p.part = .halted → p.start = .none

end Machine

end Sys2Proof
end

