-- ==== Sys2Proof/Certificates/Slice0/Obligations.lean ====
section
/-! DEFINITION. The statements for the provers, by family of commands, then the invariants and rules of the whole part.
`Becomes c s d` says that the command completes with a next state that differs from `s` in the device alone, which is `d`:
an equation between whole states, and so its own frame. -/

section

open Sys2Proof Sys2Proof.Machine

/-! ## The step and the resets -/

/-- A step runs the command at the front of the queue with the queue's rest; with none waiting, the part idles (the
model's choice, log entry 14). -/
def Obligations.StepRunsFront : Prop :=
  ∀ (c : Instr) (s : State),
    step (s.front c) = exec c s ∧
    (∀ rest, s.pending = c :: rest → step s = exec c { s with pending := rest }) ∧
    (s.pending = [] → step s = .next s)

/-- The values the spec gives for reset (R18, R33, R50, R68, R93, R117, R130, R142, R146, R162, R170): the part is DISABLED
after power-on, every channel OFF with its default configuration and its line last quiet at the end of the reset, every ring
DISABLED, every station UNKNOWN with its defaults. A size of 0 stands for the spec's "none" and "unset", and the moment of
the reset's end is the model's choice (log entry 4). -/
def Obligations.ResetValues : Prop :=
  let d := State.reset.dev
  d.port.part = .disabled ∧ d.port.resetCause = .power ∧ d.port.haltCause = .none ∧ d.port.enable = false ∧
  d.port.intStatus = 0 ∧ d.port.intMask = 0 ∧ d.port.rootLo = 0 ∧ d.port.rootHi = 0 ∧
  (∀ ch, (d.chan ch).state = .off ∧ (d.chan ch).rate = .r1 ∧ (d.chan ch).gap = 16 ∧ (d.chan ch).quietLimit = 200 ∧
    (d.chan ch).chatterLimit = 2000 ∧ (d.chan ch).operational = [] ∧ (∀ k : Fin 32, (d.chan ch).slots[k] = none) ∧
    (d.chan ch).cycle = 0 ∧ (d.chan ch).counters = {} ∧ (d.chan ch).selection = none ∧ (d.chan ch).attempt = none ∧
    (d.chan ch).lastGranted = 7 ∧ (d.chan ch).lastQuiet = d.now ∧ (d.chan ch).lineActive = false ∧
    (d.chan ch).unreported = false) ∧
  (∀ ch st, d.station ch st = {
    presence := .unknown, toggle := false, hold := none, failures := 0
    respWindow := 20, retryLimit := 2, holdLimit := 3, failLimit := 4, mark := false }) ∧
  (∀ r, (d.ring r).state = .disabled ∧ (d.ring r).base = 0 ∧ (d.ring r).binding = none ∧ (d.ring r).post = 0 ∧
    (d.ring r).fetch = 0 ∧ (d.ring r).consumer = 0 ∧ (d.ring r).reading = none ∧ (d.ring r).staging = [] ∧
    (d.ring r).head = none) ∧
  (∀ c, (d.cring c).state = .disabled ∧ (d.cring c).waiters = [] ∧ (d.cring c).lost = 0 ∧ (d.cring c).dropped = 0 ∧
    (d.cring c).slots.posting = [] ∧ (d.cring c).slots.reservations = 0 ∧ (d.cring c).slots.base = 0 ∧
    (d.cring c).slots.size = 0 ∧ (d.cring c).slots.producer = 0 ∧ (d.cring c).slots.consumer = 0) ∧
  d.ccr.active = false ∧ d.ccr.slots.size = 0 ∧ d.ccr.slots.reservations = 0 ∧ d.ccr.slots.posting = [] ∧
  d.engine.base = 0 ∧ d.engine.size = 0 ∧ d.engine.post = 0 ∧ d.engine.read = 0 ∧
  d.engine.phase = .idle ∧ d.engine.inHand = none ∧ d.engine.parked = [] ∧ d.engine.events = [] ∧
  d.alert = {
    table := Vector.replicate 16 {}, bins := 0
    modes := Vector.replicate 4 .dropAll, map := Vector.replicate 8 .discard }

/-- POWER_ON_RESET, and CONTROLLER_RESET outside RESETTING: every block takes its reset values, the part is RESETTING with
the cause, and the memory port's operations already issued are left to end (R170). While RESETTING a CONTROL write is
ignored (R163). -/
def Obligations.ResetsClearThePart : Prop :=
  ∀ (t : Moment) (enable : Bool) (s : State),
    let d := s.dev.tick t
    let cleared (cause : ResetCause) : Dev :=
      { now := max s.dev.now t
        port := { part := .resetting, resetCause := cause, drain := s.dev.port.drain ++ d.inFlight } }
    Becomes (.powerOnReset t) s (cleared .power) ∧
    (s.dev.port.part ≠ .resetting → Becomes (.controllerReset t enable) s (cleared .controller)) ∧
    (s.dev.port.part = .resetting → Ignored (.controllerReset t enable) t s)

/-- RESET_END: once every issued operation has ended the part is DISABLED, and the line of every channel is taken as quiet
from then on (R2, R170); with operations left the reset goes on. Outside RESETTING the command changes nothing but the time:
this clause is the model's choice (log entry 2). -/
def Obligations.ResetEndDisables : Prop :=
  ∀ (t : Moment) (s : State),
    (s.dev.port.part = .resetting → s.dev.port.drain = [] →
      Becomes (.resetEnd t) s { s.dev with
        now := max s.dev.now t
        port := { s.dev.port with part := .disabled }
        channels := s.dev.channels.map fun c => { c with lastQuiet := max s.dev.now t, lineActive := false } }) ∧
    (s.dev.port.part ≠ .resetting ∨ s.dev.port.drain ≠ [] → Ignored (.resetEnd t) t s)

/-! ## The register window -/

/-- ENABLE_SET on a clear bit: DISABLED goes to STARTING with the root record's read issued at the root address of ROOT_HI
and ROOT_LO, or to HALTED with cause ROOT_INVALID when that address is no multiple of 64; RUNNING lets the control engine go
on; elsewhere the bit is stored. ENABLE_SET on a set bit changes nothing, and ENABLE_CLEAR stores the bit and changes
nothing else. While RESETTING both are ignored (R149, R163, R164). -/
def Obligations.EnableBitActs : Prop :=
  ∀ (t : Moment) (s : State),
    let d := s.dev.tick t
    let stored : Dev := { d with port := { d.port with enable := true } }
    let root := s.dev.port.rootHi.toNat * 2 ^ 32 + s.dev.port.rootLo.toNat
    (s.dev.port.part = .resetting → Ignored (.enableSet t) t s ∧ Ignored (.enableClear t) t s) ∧
    (s.dev.port.part ≠ .resetting →
      Becomes (.enableClear t) s { d with port := { d.port with enable := false } }) ∧
    (s.dev.port.enable = true → Ignored (.enableSet t) t s) ∧
    (s.dev.port.enable = false →
      (s.dev.port.part = .disabled → root % 64 = 0 →
        Becomes (.enableSet t) s { d with port := { d.port with
          enable := true, part := .starting, resetCause := .none, start := .reading root d.now } }) ∧
      (s.dev.port.part = .disabled → root % 64 ≠ 0 →
        Becomes (.enableSet t) s
          ({ d with port := { d.port with enable := true, resetCause := .none } }.haltedBy .rootInvalid)) ∧
      (s.dev.port.part = .running → Becomes (.enableSet t) s stored.judgeEngine) ∧
      (s.dev.port.part = .starting ∨ s.dev.port.part = .halted → Becomes (.enableSet t) s stored))

/-- INT_STATUS_CLEAR clears each cause written 1 and keeps the others; INT_MASK_WRITE stores the mask; nothing else changes.
The request is asserted while some cause is set whose mask bit is set (R169). -/
def Obligations.InterruptRegistersAct : Prop :=
  ∀ (t : Moment) (v : Word) (s : State),
    (s.dev.port.part ≠ .resetting →
      (∃ x : BitVec 6, (∀ i : Fin 6, x.getLsbD i = (s.dev.port.intStatus.getLsbD i && !v.getLsbD i)) ∧
        Becomes (.intStatusClear t v) s
          { s.dev with now := max s.dev.now t, port := { s.dev.port with intStatus := x } }) ∧
      (∃ x : BitVec 6, (∀ i : Fin 6, x.getLsbD i = v.getLsbD i) ∧
        Becomes (.intMaskWrite t v) s
          { s.dev with now := max s.dev.now t, port := { s.dev.port with intMask := x } })) ∧
    (s.dev.port.part = .resetting → Ignored (.intStatusClear t v) t s ∧ Ignored (.intMaskWrite t v) t s) ∧
    (s.dev.interruptRequest = true ↔
      ∃ i : Fin 6, s.dev.port.intStatus.getLsbD i = true ∧ s.dev.port.intMask.getLsbD i = true)

/-- REGISTER_WRITE: a whole aligned register is written with the effect of the command for that register; ROOT_LO and
ROOT_HI are stored; a narrower or misaligned write, one to a read-only register or an unused offset, and any write while
RESETTING are ignored (R162, R163, R168). A read returns the bytes asked for of the register at its offset, the lowest first:
IDENT, ENABLE with RESET as 0, STATUS with part state, halt cause and reset cause, the causes, the mask and the root address as
they stand, and 0 for POST, FREE, the unused offsets and every reserved bit (R162, R170). -/
def Obligations.RegisterWriteDispatches : Prop :=
  ∀ (t : Moment) (offset : BitVec 6) (bytes : Nat) (v : Word) (s : State),
    let w : Instr := .registerWrite t offset bytes v
    (s.dev.port.part = .resetting ∨ bytes ≠ 4 ∨ offset.toNat % 4 ≠ 0 → Ignored w t s) ∧
    (s.dev.port.part ≠ .resetting → bytes = 4 →
      (offset = 0x04 → exec w s = exec (if v.getLsbD 1 then .controllerReset t (v.getLsbD 0)
        else if v.getLsbD 0 then .enableSet t else .enableClear t) s) ∧
      (offset = 0x0C → exec w s = exec (.intStatusClear t v) s) ∧
      (offset = 0x10 → exec w s = exec (.intMaskWrite t v) s) ∧
      (offset = 0x14 → Becomes w s { s.dev with now := max s.dev.now t, port := { s.dev.port with rootLo := v } }) ∧
      (offset = 0x18 → Becomes w s { s.dev with now := max s.dev.now t, port := { s.dev.port with rootHi := v } }) ∧
      (offset = 0x1C → ∀ r : RingId, (v.extractLsb' 0 4).toNat = r.val →
        exec w s = exec (.postTransactionRing t r (v.extractLsb' 16 12)) s) ∧
      (offset = 0x1C → v.extractLsb' 0 4 = 15 → exec w s = exec (.postControlRing t (v.extractLsb' 16 12)) s) ∧
      (offset = 0x1C → 8 ≤ (v.extractLsb' 0 4).toNat → v.extractLsb' 0 4 ≠ 15 → Ignored w t s) ∧
      (offset = 0x20 → ∀ c : CrId, (v.extractLsb' 0 4).toNat = c.val →
        exec w s = exec (.freeCompletionRing t c (v.extractLsb' 16 12)) s) ∧
      (offset = 0x20 → v.extractLsb' 0 4 = 15 → exec w s = exec (.freeCcr t (v.extractLsb' 16 12)) s) ∧
      (offset = 0x20 → 4 ≤ (v.extractLsb' 0 4).toNat → v.extractLsb' 0 4 ≠ 15 → Ignored w t s) ∧
      (offset = 0x00 ∨ offset = 0x08 ∨ 0x24 ≤ offset.toNat → Ignored w t s)) ∧
    (let port := s.dev.port
     let part := match port.part with
      | .disabled => 0 | .starting => 1 | .running => 2 | .halted => 3 | .resetting => 4
     let halt := match port.haltCause with
      | .none => 0 | .rootRead => 1 | .rootInvalid => 2 | .controlRead => 3 | .ccrWrite => 4 | .statusWrite => 5
     let reset := match port.resetCause with
      | .none => 0 | .power => 1 | .controller => 2
     let word : Nat → Nat := fun k => match k with
      | 0 => 0x3B710C41 | 1 => if port.enable then 1 else 0 | 2 => part + 16 * halt + 256 * reset
      | 3 => port.intStatus.toNat | 4 => port.intMask.toNat | 5 => port.rootLo.toNat | 6 => port.rootHi.toNat
      | _ => 0
     offset.toNat % 4 + bytes ≤ 4 →
      (s.dev.readRegister offset bytes).length = bytes ∧
      ∀ i, i < bytes → (s.dev.readRegister offset bytes)[i]? =
        some (BitVec.ofNat 8 (word (offset.toNat / 4) >>> (8 * (offset.toNat % 4 + i)))))

/-- POST_TRANSACTION_RING: an index below the size becomes the host post index of a ring that is not DISABLED, and a read of
the record at the fetch index is issued when every condition of R71 holds; any other POST is ignored (R70, R71). -/
def Obligations.PostMovesThePostIndex : Prop :=
  ∀ (t : Moment) (r : RingId) (i : BitVec 12) (s : State),
    let d := s.dev.tick t
    let x := s.dev.ring r
    (∀ b, x.binding = some b → x.state ≠ .disabled → i.toNat < b.size →
      Becomes (.postTransactionRing t r i) s (d.setRing r
        { x with
          post := i.toNat
          reading := if x.state = .active ∧ x.reading = none ∧ x.staging.length < 4 ∧ x.fetch ≠ i.toNat ∧
              s.dev.port.part ≠ .halted then some {
                slot := x.fetch, address := slotAddress x.base 64 x.fetch, issued := d.now } else x.reading })) ∧
    (x.binding = none ∨ x.state = .disabled ∨ (∃ b, x.binding = some b ∧ b.size ≤ i.toNat) →
      Ignored (.postTransactionRing t r i) t s)

/-- POST_CONTROL_RING: an index below the size becomes the host post index of the control ring, and the engine judges R148:
with the part RUNNING, ENABLE set and a record posted, RESERVED issues its read, and IDLE with fewer than 8 parked commands
asks for a CCR reservation; otherwise the phase stays (R147, R148). -/
def Obligations.PostMovesTheControlIndex : Prop :=
  ∀ (t : Moment) (i : BitVec 12) (s : State),
    let d := s.dev.tick t
    let e : Engine := { s.dev.engine with post := i.toNat }
    (s.dev.engine.size ≤ i.toNat → Ignored (.postControlRing t i) t s) ∧
    (i.toNat < s.dev.engine.size →
      (s.dev.port.part ≠ .running ∨ s.dev.port.enable = false ∨ i.toNat = s.dev.engine.read ∨
          (e.phase ≠ .idle ∧ e.phase ≠ .reserved) ∨ (e.phase = .idle ∧ 8 ≤ e.parked.length) →
        Becomes (.postControlRing t i) s { d with engine := e }) ∧
      (s.dev.port.part = .running → s.dev.port.enable = true → i.toNat ≠ s.dev.engine.read →
        (e.phase = .reserved →
          Becomes (.postControlRing t i) s { d with engine := { e with
            phase := .reading, address := slotAddress e.base 64 e.read, issued := d.now } }) ∧
        (e.phase = .idle → e.parked.length < 8 →
          Becomes (.postControlRing t i) s
            (Dev.requestCcr { d with engine := { e with phase := .reserving } }))))

/-- FREE_COMPLETION_RING and FREE_CCR: an index inside the span from the host consumer index to the producer index becomes
the host consumer index, and the room that rises is given out; any other FREE is ignored (R136, R142). The room of CR0 to CR3
goes first to an ALERTS_LOST entry, where the lost-alert count is above 0: it takes a claim at the tail of the posting queue
with the count as its detail, and the count returns to 0; then the oldest waiting heads are granted a reservation each (R134,
R136, R139). The room of the CCR goes first to the pending events, while RUNNING, and then to the control engine's waiting
request, when none is left pending (R142, R144). -/
def Obligations.FreeMovesTheConsumerIndex : Prop :=
  ∀ (t : Moment) (i : BitVec 12) (s : State),
    let d := s.dev.tick t
    let inside (x : Slots) : Prop := i.toNat < x.size ∧ i.toNat ≠ x.consumer ∧
      (i.toNat + x.size - x.consumer) % x.size ≤ (x.producer + x.size - x.consumer) % x.size
    (∀ c : CrId,
      let x := s.dev.cring c
      (x.state = .active → inside x.slots → Becomes (.freeCompletionRing t c i) s
        ((d.setCring c { x with slots := { x.slots with consumer := i.toNat } }).giveRoom c)) ∧
      (x.state = .active → inside x.slots → x.lost = 0 → x.waiters = [] → Becomes (.freeCompletionRing t c i) s
        (d.setCring c { x with slots := { x.slots with consumer := i.toNat } })) ∧
      (x.state = .active → inside x.slots →
        let slots : Slots := { x.slots with consumer := i.toNat }
        let room := slots.roomLeft
        let given (lost : Nat) (y : Slots) (n : Nat) : Dev :=
          let heads := x.waiters.take n
          { d.setCring c { x with
              lost := lost, waiters := x.waiters.drop n
              slots := { y with reservations := y.reservations + heads.length } } with
            grants := s.dev.grants ++ heads.map fun r => { ring := r } }
        (x.lost = 0 ∨ room = 0 → Becomes (.freeCompletionRing t c i) s (given x.lost slots room)) ∧
        (0 < x.lost → 1 ≤ room → Becomes (.freeCompletionRing t c i) s (given 0 { slots with
          posting := slots.posting ++ [{
            entry := { kind := .alertsLost, source := c.val, detail := BitVec.ofNat 32 x.lost }, source := .alertsLost }]
          stage := if s.dev.port.part ≠ .halted ∧ slots.stage = .idle then .writing else slots.stage } (room - 1)))) ∧
      (x.state ≠ .active ∨ ¬ inside x.slots → Ignored (.freeCompletionRing t c i) t s)) ∧
    (let x := s.dev.ccr
     (x.active = true → inside x.slots →
        let u := Dev.withEvents { d with ccr := { x with slots := { x.slots with consumer := i.toNat } } } s.dev.engine.events
        let grants := x.requested = true ∧ u.engine.events = [] ∧ 1 ≤ u.ccr.slots.roomLeft
        (grants → Becomes (.freeCcr t i) s { u with ccr := { u.ccr with
          requested := false, granted := true
          slots := { u.ccr.slots with reservations := u.ccr.slots.reservations + 1 } } }) ∧
        (¬ grants → Becomes (.freeCcr t i) s u)) ∧
     (x.active = true → inside x.slots → Becomes (.freeCcr t i) s
        (Dev.giveCcrRoom { d with ccr := { x with slots := { x.slots with consumer := i.toNat } } })) ∧
     (x.active = true → inside x.slots → s.dev.engine.events = [] → x.requested = false → Becomes (.freeCcr t i) s
        { d with ccr := { x with slots := { x.slots with consumer := i.toNat } } }) ∧
     (x.active = false ∨ ¬ inside x.slots → Ignored (.freeCcr t i) t s))

/-! ## The ends of memory port operations -/

/-- The root record's read: with data that passes the checks of R164 the status area address is kept and the two first
writes are requested; with data that does not, or with an error, the part halts with cause ROOT_INVALID or ROOT_READ. The
checks: the three addresses are multiples of 64, the two sizes powers of two from 8 to 4096, and every reserved byte 0 (R164,
R165, R176). -/
def Obligations.RootReadEnds : Prop :=
  (∀ data : Record,
    let root := RootRecord.ofRecord data
    rootOk data = true ↔
      root.controlBase.toNat % 64 = 0 ∧ root.ccrBase.toNat % 64 = 0 ∧ root.statusAddr.toNat % 64 = 0 ∧
      (∃ k, 3 ≤ k ∧ k ≤ 12 ∧ root.controlSize = 2 ^ k) ∧ (∃ k, 3 ≤ k ∧ k ≤ 12 ∧ root.ccrSize = 2 ^ k) ∧
      ∀ i, (80 ≤ i ∧ i < 128) ∨ (208 ≤ i ∧ i < 256) ∨ (320 ≤ i ∧ i < 512) → data.getLsbD i = false) ∧
  ∀ (t issued : Moment) (address : Nat) (data : Record) (s : State),
    let d := s.dev.tick t
    let root := RootRecord.ofRecord data
    s.dev.port.part = .starting → s.dev.port.start = .reading address issued →
    (rootOk data = true → Becomes (.rootReadData t data) s
      ((Dev.publish { d with port := { d.port with start := .publishing root 2, statusAddr := root.statusAddr } }
        fieldCtl 0 .start).publish fieldCcr 0 .start)) ∧
    (rootOk data = false → Becomes (.rootReadData t data) s (d.haltedBy .rootInvalid)) ∧
    Becomes (.rootReadError t) s (d.haltedBy .rootRead)

/-- RECORD_READ_DATA: the record joins the tail of its ring's staging queue with the verdict of R74, the read in flight ends
(a read in flight after it is of the next slot, at that slot's address), the fetch index advances by one, modulo the size, and
into an empty queue the record comes as a fresh head (R72, R73); the other rings, the channels, the stations, the host port,
the alert unit and the memory image stay. The verdict is the number of the first of the nine checks of R74 that fails, or
VALID. -/
def Obligations.RecordReadStages : Prop :=
  (∀ data : Record,
    let x := TransRecord.ofRecord data
    let verdict := validate x (reservedZero data transFields)
    let fails : Nat → Prop := fun n => match n with
      | 1 => x.operation = 3
      | 2 => x.station = 63
      | 3 => 32 < x.length
      | 4 => (x.operation = 0 ∨ x.operation = 2) ∧ x.length = 0
      | 5 => x.station = 0 ∧ (x.operation = 0 ∨ x.operation = 2)
      | 6 => x.station = 0 ∧ x.probe = true
      | 7 => ∃ i, data.getLsbD i = true ∧ (i ∈ [6, 7, 14, 15, 22, 23, 28, 29, 30, 31, 60, 61, 62, 63] ∨
          (37 ≤ i ∧ i < 48) ∨ (128 ≤ i ∧ i < 256))
      | 8 => x.retryFlag = true ∧ 7 < x.retryLimit
      | 9 => x.holdFlag = true ∧ 15 < x.holdLimit
      | _ => False
    ((∀ n, ¬ fails n) → verdict = .valid) ∧
    ∀ n, fails n → (∀ m, m < n → ¬ fails m) → verdict = .invalid n) ∧
  ∀ (t : Moment) (r : RingId) (data : Record) (s : State) (read : SlotRead) (b : Binding),
    s.dev.port.part ≠ .resetting → (s.dev.ring r).reading = some read → (s.dev.ring r).binding = some b →
    ∃ u, exec (.recordReadData t r data) s = .next u ∧ u.pending = s.pending ∧ u.mem = s.mem ∧
      u.dev.now = max s.dev.now t ∧
      (u.dev.ring r).staging = (s.dev.ring r).staging ++ [{
        slot := read.slot, record := TransRecord.ofRecord data
        validity := validate (TransRecord.ofRecord data) (reservedZero data transFields) }] ∧
      (u.dev.ring r).fetch = ((s.dev.ring r).fetch + 1) % b.size ∧
      (u.dev.ring r).post = (s.dev.ring r).post ∧ (u.dev.ring r).consumer = (s.dev.ring r).consumer ∧
      (u.dev.ring r).binding = some b ∧ (u.dev.ring r).base = (s.dev.ring r).base ∧
      (∀ next, (u.dev.ring r).reading = some next → next.slot = ((s.dev.ring r).fetch + 1) % b.size ∧
        next.address = slotAddress (s.dev.ring r).base 64 next.slot) ∧
      ((s.dev.ring r).state ≠ .stopping → (u.dev.ring r).state = (s.dev.ring r).state) ∧
      ((s.dev.ring r).staging = [] →
        (u.dev.ring r).head.map (fun h => (h.state, h.attempts, h.holds, h.final)) = some (.staged, 0, 0, none)) ∧
      (∀ k, k ≠ r → u.dev.ring k = s.dev.ring k) ∧
      u.dev.channels = s.dev.channels ∧ u.dev.stations = s.dev.stations ∧ u.dev.port = s.dev.port ∧
      u.dev.alert = s.dev.alert

/-- RECORD_READ_ERROR: nothing is staged, the fetch index stays, the read in flight ends, RING_FAULT is entered, and an
ACTIVE ring becomes FAULTED; a STOPPING ring stays STOPPING, or is STOPPED at once when its head is quiet (R84, R81). Entering
an event, of any kind: one already pending counts a repeat in its place, saturating; a new one joins the tail with count 0, and
while RUNNING with CCR room it leaves at once as the EVENT entry of R144 (R143, R144). -/
def Obligations.RecordReadErrorFaults : Prop :=
  ∀ (t : Moment) (r : RingId) (s : State) (read : SlotRead),
    let x := s.dev.ring r
    s.dev.port.part ≠ .resetting → x.reading = some read →
    (x.state ≠ .stopping → Becomes (.recordReadError t r) s
      (((s.dev.tick t).setRing r { x with
        reading := none, state := if x.state = .active then .faulted else x.state }).enterEvent .ringFault r.val)) ∧
    (x.state = .stopping → ∃ u, exec (.recordReadError t r) s = .next u ∧ u.pending = s.pending ∧ u.mem = s.mem ∧
      (u.dev.ring r).state = (if x.quiet then .stopped else .stopping) ∧ (u.dev.ring r).reading = none ∧
      (u.dev.ring r).fetch = x.fetch ∧ (u.dev.ring r).staging = x.staging ∧
      u.dev.engine.events = ((s.dev.tick t).enterEvent .ringFault r.val).engine.events ∧
      u.dev.channels = s.dev.channels ∧ u.dev.stations = s.dev.stations ∧ u.dev.alert = s.dev.alert) ∧
    (∀ (d : Dev) (kind : EventKind) (object : Nat),
      let pending := ∃ e ∈ d.engine.events, e.kind = kind ∧ e.object = object
      (pending → d.enterEvent kind object =
        { d with engine := { d.engine with events := recurred kind object d.engine.events } }) ∧
      (¬ pending → d.enterEvent kind object =
        d.withEvents (d.engine.events ++ [{ kind := kind, object := object, repeats := 0 }])))

/-- CONTROL_READ_DATA: the record is taken, the read index advances by one, modulo the size, and is published; the record is
in hand, and answered at once when a check of R150 fails (R148, R150). While HALTED it is not taken (R149).
CONTROL_READ_ERROR halts the part with cause CONTROL_READ, and while HALTED leaves the part state and the cause as they are; the
read index does not advance and the reservation stays held (R148, R165). That the engine is then RESERVED is the model's choice
(log entry 28). -/
def Obligations.ControlReadEnds : Prop :=
  ∀ (t : Moment) (data : Record) (s : State),
    let d := s.dev.tick t
    let e := s.dev.engine
    let read := (e.read + 1) % e.size
    let taken := Dev.publish { d with
      engine := { e with inHand := some data, read := read, phase := .acting, answering := false } } fieldCtl read .plain
    s.dev.port.part ≠ .resetting → e.phase = .reading →
    (∀ c, s.dev.port.part ≠ .halted → checkRecord data = .pass c → Becomes (.controlReadData t data) s taken) ∧
    (∀ status, s.dev.port.part ≠ .halted → checkRecord data = .fail status →
      Becomes (.controlReadData t data) s (taken.answered data status 0 [])) ∧
    (s.dev.port.part = .halted →
      Becomes (.controlReadData t data) s { d with engine := { e with phase := .reserved } }) ∧
    (s.dev.port.part = .running →
      Becomes (.controlReadError t) s (Dev.haltedBy { d with engine := { e with phase := .reserved } } .controlRead)) ∧
    (s.dev.port.part = .halted →
      Becomes (.controlReadError t) s { d with engine := { e with phase := .reserved } })

/-- READ_COMPLETION_LIMIT_EXPIRY: a read in flight for 50 ms (400000 units of 125 ns) fails at that moment as it does with an
error (R171). That with no such read in flight nothing happens is the model's choice (log entry 2). -/
def Obligations.ReadLimitFailsTheRead : Prop :=
  ∀ (op : ReadOp) (s : State),
    let failed (issued : Moment) : Instr := match op with
      | .root => .rootReadError (issued + 400000)
      | .record r => .recordReadError (issued + 400000) r
      | .control => .controlReadError (issued + 400000)
    (∀ issued, s.dev.readIssued op = some issued →
      exec (.readCompletionLimitExpiry op) s = exec (failed issued) s ∧
      ∃ u, exec (.readCompletionLimitExpiry op) s = .next u ∧ u.pending = s.pending ∧ u.mem = s.mem ∧
        u.dev.now = max s.dev.now (issued + 400000)) ∧
    (s.dev.readIssued op = none → exec (.readCompletionLimitExpiry op) s = .next s)

/-- ENTRY_WRITE_END on CR0 to CR3 or the CCR: the 64 bytes of the oldest entry stand in its slot and every other byte of the
image is as before; the entry leaves the queue, its reservation or claim ends, the producer index advances by one modulo the
size, and its publication is requested (R130, R137, R166, R174). -/
def Obligations.EntryWriteEnds : Prop :=
  ∀ (t : Moment) (ring : EntryRing) (s : State) (p : Posting) (rest : List Posting),
    let x := s.dev.slotsOf ring
    let at_ := slotAddress x.base 64 x.producer
    let y : Slots := { x with
      posting := rest, producer := (x.producer + 1) % x.size, stage := .publishing p.source
      reservations := if p.source.claims then x.reservations else x.reservations - 1 }
    s.dev.port.part ≠ .resetting → s.dev.port.part ≠ .halted → x.stage = .writing → x.posting = p :: rest →
    ∃ u, exec (.entryWriteEnd t ring) s = .next u ∧ u.pending = s.pending ∧
      u.dev = ((s.dev.tick t).setSlots y ring).publish (producerField ring) y.producer (.publish ring) ∧
      p.entry.bytes.length = 64 ∧
      (∀ i (h : i < p.entry.bytes.length), Memory.read u.mem (at_ + i) = some p.entry.bytes[i]) ∧
      (∀ a, a < at_ ∨ at_ + 64 ≤ a → Memory.read u.mem a = Memory.read s.mem a)

/-- STATUS_WRITE_END: the four bytes of the index stand little-endian in their field of the status area and every other byte
is as before; the field's next write is issued, unless the part is HALTED, and the report is made (R166, R167). A report for
which nothing waits changes nothing further. -/
def Obligations.StatusWriteEnds : Prop :=
  ∀ (t : Moment) (f : FieldId) (s : State) (q : StatusReq),
    let d := s.dev.tick t
    let at_ := slotAddress s.dev.port.statusAddr 4 f.val
    let queue : FieldQueue := if s.dev.port.part = .halted then { s.dev.fieldQueue f with inProgress := none }
      else { inProgress := (s.dev.fieldQueue f).waiting.head?, waiting := (s.dev.fieldQueue f).waiting.tail }
    s.dev.port.part ≠ .resetting → (s.dev.fieldQueue f).inProgress = some q →
    ∃ u, exec (.statusWriteEnd t f) s = .next u ∧ u.pending = s.pending ∧
      u.dev = (d.setField f queue).statusReport q.purpose ∧
      (q.purpose = .plain → u.dev = d.setField f queue) ∧
      (∀ i, i < 4 → Memory.read u.mem (at_ + i) = some (BitVec.ofNat 8 (q.value >>> (8 * i)))) ∧
      (∀ a, a < at_ ∨ at_ + 4 ≤ a → Memory.read u.mem a = Memory.read s.mem a)

/-- The report of a published producer index: the ring's interrupt cause is set, the next entry's write starts when one is
queued, and the entry's source learns that it is done (R137, R169); while HALTED none of it happens (R145). The done report of
a head takes its record from the queue, advances the consumer index by one, modulo the size, and has it published; the next
record is a fresh head (R77). That of the record in hand returns the engine to IDLE, and that of a parked command takes it from
the list (R151, R152). The report of the first of the two writes of STARTING is noted, that of the second makes the part RUNNING
with the root record's setup (R164); that of a RING_SETUP or a CRING_SETUP completes it DONE, with the dropped count as the
detail of the latter (R78, R132); that of a RING_FLUSH completes it DONE with the skipped count (R83). -/
def Obligations.PublicationReported : Prop :=
  ∀ (d : Dev),
    (∀ (ring : EntryRing) (source : EntrySource), d.port.part ≠ .halted → (d.slotsOf ring).stage = .publishing source →
      d.statusReport (.publish ring) =
        ((d.setCause (causeBit ring)).setSlots { d.slotsOf ring with
          stage := if (d.slotsOf ring).posting = [] then .idle else .writing } ring).entryDone source) ∧
    (∀ ring, d.port.part = .halted → d.statusReport (.publish ring) = d) ∧
    (∀ r b done rest, (d.ring r).binding = some b → (d.ring r).staging = done :: rest → d.flushNoted r = none →
      let x := d.ring r
      let u := d.entryDone (.transaction r)
      (u.ring r).staging = rest ∧ (u.ring r).consumer = (x.consumer + 1) % b.size ∧
      (u.ring r).fetch = x.fetch ∧ (u.ring r).post = x.post ∧ (u.ring r).binding = some b ∧ (u.ring r).base = x.base ∧
      (d.port.part ≠ .halted → u.fieldQueue (fieldRing r) =
        (d.fieldQueue (fieldRing r)).request { value := (x.consumer + 1) % b.size, purpose := .plain }) ∧
      (rest = [] → (u.ring r).head = none) ∧
      (rest ≠ [] → (u.ring r).head.map (fun h => (h.state, h.attempts, h.holds, h.final)) = some (.staged, 0, 0, none)) ∧
      (∀ k, k ≠ r → u.ring k = d.ring k) ∧ u.channels = d.channels ∧ u.stations = d.stations ∧ u.alert = d.alert) ∧
    d.entryDone .inHand = Dev.judgeEngine { d with engine := { d.engine with phase := .idle, inHand := none } } ∧
    (∀ k before behind, d.engine.parked = before ++ k :: behind → k.waiting = false →
      (∀ j ∈ before, j.waiting = true ∨ j.record ≠ k.record) →
      d.entryDone (.parked k.record) = Dev.judgeEngine { d with engine := { d.engine with parked := before ++ behind } }) ∧
    d.entryDone .event = d ∧ d.entryDone .alert = d ∧ d.entryDone .alertsLost = d ∧
    (∀ root, d.port.start = .publishing root 2 →
      d.statusReport .start = { d with port := { d.port with start := .publishing root 1 } }) ∧
    (∀ root, d.port.start = .publishing root 1 →
      d.statusReport .start = Dev.judgeEngine { d with
        engine := { d.engine with base := root.controlBase, size := root.controlSize, post := 0, read := 0 }
        ccr := { d.ccr with active := true, slots := { base := root.ccrBase, size := root.ccrSize } }
        port := { d.port with part := .running, start := .none } }) ∧
    (∀ record, d.engine.inHand = some record → d.statusReport .ringSetup = d.answered record .done 0 []) ∧
    (∀ record dropped, d.engine.inHand = some record →
      d.statusReport (.cringSetup dropped) = d.answered record .done dropped []) ∧
    (∀ r skipped k before behind, d.engine.parked = before ++ k :: behind →
      k.matchesCommand (Command.isRingFlush r) = true →
      (∀ j ∈ before, j.matchesCommand (Command.isRingFlush r) = false) →
      d.statusReport (.flush r skipped) = { d with
        engine := { d.engine with parked := before ++ { k with waiting := false } :: behind }
        ccr := { d.ccr with slots := d.ccr.slots.post {
          entry := d.controlEntry k.record .done skipped [], source := .parked k.record } d.halted } })

/-- ENTRY_WRITE_ERROR on CR0 to CR3: the ring is FAULTED, its posting queue is discarded and counted dropped together with the
ALERTS_LOST entry that was due, the lost-alert count is 0 and the occupied count is 0 (R140). CRING_FAULT is entered for the
ring: a repeat if it is pending, otherwise a new event, which leaves as its EVENT entry while RUNNING with CCR room; before
it the CCR's posting queue takes only the entries of parked commands that the discarded heads completed (R82, R143, R144). The
channels, the stations, the alert unit and the memory image stay. -/
def Obligations.EntryWriteErrorFaults : Prop :=
  ∀ (t : Moment) (c : CrId) (s : State),
    let x := s.dev.cring c
    s.dev.port.part ≠ .resetting → x.slots.stage = .writing →
    ∃ u, exec (.entryWriteError t c) s = .next u ∧ u.pending = s.pending ∧ u.mem = s.mem ∧
      (u.dev.cring c).state = .faulted ∧ (u.dev.cring c).slots.posting = [] ∧ (u.dev.cring c).lost = 0 ∧
      (u.dev.cring c).slots.producer = x.slots.producer ∧ (u.dev.cring c).slots.consumer = x.slots.producer ∧
      (u.dev.cring c).dropped = min (x.dropped + (x.slots.posting.length + if 0 < x.lost then 1 else 0)) (2 ^ 32 - 1) ∧
      u.dev.alert = s.dev.alert ∧ u.dev.channels = s.dev.channels ∧ u.dev.stations = s.dev.stations ∧
      (let events := s.dev.engine.events
       let pending := ∃ e ∈ events, e.kind = .cringFault ∧ e.object = c.val
       let all := events ++ [{ kind := .cringFault, object := c.val, repeats := 0 }]
       let out := s.dev.eventsOut all
       ∃ own : List Posting, (∀ p ∈ own, ∃ record, p.source = .parked record) ∧
         (pending → u.dev.engine.events = recurred .cringFault c.val events ∧
           u.dev.ccr.slots.posting = s.dev.ccr.slots.posting ++ own) ∧
         (¬ pending → u.dev.engine.events = all.drop out.length ∧
           u.dev.ccr.slots.posting = s.dev.ccr.slots.posting ++ own ++ out.map s.dev.eventPosting))

/-- CCR_WRITE_ERROR halts the part with cause CCR_WRITE, and STATUS_WRITE_ERROR with cause STATUS_WRITE and without a report
(R142, R165, R167). What every halt does: the part state, the cause and the HALT bit of INT_STATUS are written and a start ends;
a channel in IDLE, QUIET_WAIT or LISTENING with the line quiet enters OFF, and any other channel goes on (R47); a CHANNEL_DISABLE
that waits on a channel so stopped completes DONE, which can be only between the quiet and the report of a stretch (R45, R152; the
model's reading, log entry 24); nothing else of the engine, the CCR and the other blocks changes. -/
def Obligations.WriteErrorsHalt : Prop :=
  ∀ (t : Moment) (f : FieldId) (s : State),
    let d := s.dev.tick t
    let halts := s.dev.port.part = .running ∨ s.dev.port.part = .starting
    (halts → s.dev.ccr.slots.stage = .writing → Becomes (.ccrWriteError t) s
      (Dev.haltedBy { d with ccr := { d.ccr with slots := { d.ccr.slots with stage := .idle } } } .ccrWrite)) ∧
    (∀ q, halts → (s.dev.fieldQueue f).inProgress = some q → Becomes (.statusWriteError t f) s
      ((d.setField f { s.dev.fieldQueue f with inProgress := none }).haltedBy .statusWrite)) ∧
    (∀ (d : Dev) (cause : HaltCause),
      let u := d.haltedBy cause
      let stops (ch : ChanId) : Prop := (d.chan ch).state ∈ [.idle, .quietWait] ∨
        ((d.chan ch).state = .listening ∧ (d.chan ch).lineActive = false)
      u.port = { d.port with
        part := .halted, haltCause := cause, start := .none, intStatus := d.port.intStatus ||| 0x20 } ∧
      (∀ ch, (stops ch → u.chan ch = { d.chan ch with
          state := .off, selection := none, attempt := none, window := none, tx := none, listening := none
          activity := none }) ∧
        (¬ stops ch → u.chan ch = d.chan ch)) ∧
      ((∀ ch, stops ch → d.disableParked ch = false) → u.engine = d.engine ∧ u.ccr = d.ccr) ∧
      (∀ ch k before behind, stops ch → d.engine.parked = before ++ k :: behind →
        k.matchesCommand (Command.isDisable ch) = true →
        (∀ j ∈ before, j.matchesCommand (Command.isDisable ch) = false) →
        { k with waiting := false } ∈ u.engine.parked ∧
        { entry := { kind := .control, source := 9, tag := recordTag k.record, cycle := (d.chan ch).cycle }
          source := .parked k.record } ∈ u.ccr.slots.posting) ∧
      u = { d with port := u.port, channels := u.channels
                   engine := { d.engine with parked := u.engine.parked }
                   ccr := { d.ccr with slots := { d.ccr.slots with posting := u.ccr.slots.posting } } } ∧
      u.engine.parked.map Parked.record = d.engine.parked.map Parked.record ∧
      d.ccr.slots.posting <+: u.ccr.slots.posting)

/-! ## Grants -/

/-- RESERVATION_GRANT: the head becomes HELD, and is completed FLUSHED while a RING_FLUSH is in progress, otherwise INVALID if
it is, otherwise with the final status it already has; otherwise it is eligible, and with its channel busy, its deadline
not passed and its station not QUARANTINED nothing more happens. A grant whose head has cancelled is not taken up (R76, R88,
R89). That a cancelled head's grant is one marked void, and that with no grant on its way nothing happens, are the model's
choices (log entries 17 and 2). -/
def Obligations.GrantReachesTheHead : Prop :=
  ∀ (t : Moment) (r : RingId) (s : State) (v : HeadView),
    let d := s.dev.tick t
    let spent : Dev := { d with grants := d.grants.eraseP fun g => g.ring == r }
    let held := spent.setRing r { s.dev.ring r with head := some { v.head with reservation := .held } }
    let chan := s.dev.chan v.binding.channel
    ((∀ g ∈ s.dev.grants, g.ring ≠ r) → Ignored (.reservationGrant t r) t s) ∧
    (s.dev.grants.find? (fun g => g.ring == r) = some { ring := r, void := true } →
      Becomes (.reservationGrant t r) s spent) ∧
    (s.dev.grants.find? (fun g => g.ring == r) = some { ring := r, void := false } → s.dev.headOf r = some v →
      (∀ n, s.dev.flushNoted r = some n → Becomes (.reservationGrant t r) s
        (held.assignFinal r { status := .flushed, cycle := chan.cycle, window := 0 })) ∧
      (s.dev.flushNoted r = none → v.staged.validity ≠ .valid →
        Becomes (.reservationGrant t r) s (held.assignFinal r (held.finalOf v .invalid))) ∧
      (∀ f, s.dev.flushNoted r = none → v.staged.validity = .valid → v.head.final = some f →
        Becomes (.reservationGrant t r) s (held.assignFinal r f)) ∧
      (s.dev.flushNoted r = none → v.staged.validity = .valid → v.head.final = none → chan.state ≠ .idle →
        v.staged.record.passed chan.cycle = false →
        (∀ st, v.station = some st → (s.dev.station v.binding.channel st).presence ≠ .quarantined) →
        Becomes (.reservationGrant t r) s held))

/-- CCR_RESERVATION_GRANT: the engine is RESERVED, and issues its read at once with the part RUNNING, ENABLE set and a record
posted (R148, R149). That without a grant on its way, or in a phase other than RESERVING, nothing happens is the model's choice
(log entry 2). -/
def Obligations.CcrGrantReachesTheEngine : Prop :=
  ∀ (t : Moment) (s : State),
    let d := s.dev.tick t
    let e := s.dev.engine
    let posted := s.dev.port.part = .running ∧ s.dev.port.enable = true ∧ e.post ≠ e.read
    (s.dev.ccr.granted = true → e.phase = .reserving →
      (posted → Becomes (.ccrReservationGrant t) s
        { d with
          ccr := { d.ccr with granted := false }
          engine := { e with phase := .reading, address := slotAddress e.base 64 e.read, issued := d.now } }) ∧
      (¬ posted → Becomes (.ccrReservationGrant t) s
        { d with ccr := { d.ccr with granted := false }, engine := { e with phase := .reserved } })) ∧
    (s.dev.ccr.granted = false ∨ e.phase ≠ .reserving → Ignored (.ccrReservationGrant t) t s)

/-! ## Reports of the receiver -/

/-- LINE_ACTIVITY_START: in AWAITING it begins the response inside the response window, or means chatter after a broadcast;
after the end of a response it means chatter; in LISTENING it starts a stretch; in every other state only the line is noted
as active, since this moment and with the report of the stretch to come (R2, R13, R15, R16, R35, R41, R114). That a stretch
with its quiet taken and its report to come gives way to a new one, unless its window has ended, is the model's reading (log
entry 24). -/
def Obligations.ActivityStartByState : Prop :=
  ∀ (t : Moment) (ch : ChanId) (s : State),
    let d := s.dev.tick t
    let c := s.dev.chan ch
    let q : Channel := { c with lineActive := true, activeSince := d.now, unreported := true }
    let i : Instr := .lineActivityStart t ch
    (∀ a w, c.state = .awaiting → c.attempt = some a → a.kind = .transaction → a.respWindow = some w →
      d.now ≤ a.opened + 8 * w →
      Becomes i s (d.setChan ch { q with state := .receiving, attempt := some { a with started := d.now } })) ∧
    (∀ a, c.attempt = some a →
      (c.state = .awaiting ∧ a.kind = .broadcast) ∨ (c.state = .receiving ∧ a.provisional.isSome = true) →
      Becomes i s (d.setChan ch { q with
        state := .chatter, since := d.now, listening := none
        attempt := some { a with provisional := some .garbled } })) ∧
    (∀ l, c.state = .listening → c.listening = some l →
      (l.stretch = none ∨ (c.lineActive = false ∧ l.ended = false) →
        Becomes i s (d.setChan ch { q with
          listening := some { l with stretch := some d.now, counted := false }
          activity := some { ownEnd := l.window.ends, crossed := [] } })) ∧
      (l.stretch ≠ none → c.lineActive = true ∨ l.ended = true → Becomes i s (d.setChan ch q))) ∧
    (c.state ∈ [.off, .idle, .quietWait, .sending, .chatter, .stuck] → Becomes i s (d.setChan ch q))

/-- LINE_QUIET: the last quiet transition is this moment, in every channel state (R33). In RECEIVING it closes a response of
non-frame activity (R14); in AWAITING, later than a broadcast's frame end, it shows activity in the gap and the channel
passes to CHATTER (R16; the model's reading, log entry 23); in LISTENING it accounts the stretch, which is over when its
report has been taken, and the channel then enters IDLE when its window has ended, or OFF while HALTED (R47, R48, R66,
R114). With the report still to come, the channel goes on listening for it (the model's reading, log entry 24). -/
def Obligations.QuietByState : Prop :=
  ∀ (t : Moment) (ch : ChanId) (s : State),
    let d := s.dev.tick t
    let c := s.dev.chan ch
    let q : Channel := { c with lineActive := false, lastQuiet := d.now }
    let i : Instr := .lineQuiet t ch
    (c.state ≠ .awaiting → c.state ≠ .receiving → c.state ≠ .listening → Becomes i s (d.setChan ch q)) ∧
    (∀ a, c.state = .awaiting → c.attempt = some a →
      (a.kind ≠ .broadcast ∨ d.now ≤ a.opened → Becomes i s (d.setChan ch q)) ∧
      (a.kind = .broadcast → a.opened < d.now → Becomes i s (d.setChan ch { q with
        state := .chatter, since := d.now, listening := none
        attempt := some { a with provisional := some .garbled } }))) ∧
    (∀ a, c.state = .receiving → c.attempt = some a →
      (a.provisional = none → Becomes i s (d.setChan ch q)) ∧
      (∀ v, a.provisional = some v → a.respEnd = none →
        Becomes i s (d.setChan ch { q with attempt := some { a with respEnd := some d.now } })) ∧
      (∀ v, a.provisional = some v → a.respEnd = some d.now → Becomes i s (d.setChan ch q))) ∧
    (∀ l, c.state = .listening → c.listening = some l →
      let calm : Channel := { q.account d.now with listening := some { l with stretch := none } }
      (l.stretch = none → Becomes i s (d.setChan ch q)) ∧
      (∀ m, l.stretch = some m → c.unreported = true → Becomes i s (d.setChan ch (q.account d.now))) ∧
      (∀ m, l.stretch = some m → c.unreported = false → l.ended = false → s.dev.port.part ≠ .halted →
        s.dev.disableParked ch = false → Becomes i s (d.setChan ch calm)) ∧
      (∀ m, l.stretch = some m → c.unreported = false → l.ended = true ∨ s.dev.port.part = .halted →
        s.dev.disableParked ch = false → Becomes i s ((d.setChan ch calm).enterIdle ch)))

/-- FRAME_REPORT, MALFORMED_FRAME_REPORT and NON_FRAME_ACTIVITY at the end of a response: the first row of R14 that applies
gives the provisional verdict, and nothing else changes but the attempt record, and that the stretch has had its report (R2,
R14, R15). -/
def Obligations.ResponseClassified : Prop :=
  ∀ (t : Moment) (ch : ChanId) (s : State) (a : Attempt) (st : StationId) (expected : Nat),
    let d := s.dev.tick t
    let c := s.dev.chan ch
    let judged (v : Verdict) (e : Option Moment) : Dev :=
      d.setChan ch { c with unreported := false, attempt := some { a with provisional := some v, respEnd := e } }
    c.state = .receiving → c.attempt = some a → a.provisional = none → a.station = some st → a.expected = some expected →
    Becomes (.malformedFrameReport t ch) s (judged .garbled (some d.now)) ∧
    Becomes (.nonFrameActivity t ch) s (judged .garbled (if c.lineActive then none else some c.lastQuiet)) ∧
    (∀ header payload good, payload.length ≤ 32 →
      Becomes (.frameReport t ch (.command header payload good)) s (judged .garbled (some d.now))) ∧
    (∀ address priority length code spare payload good,
      RxFrame.formed (.alert address priority length code spare payload good) = true →
      Becomes (.frameReport t ch (.alert address priority length code spare payload good)) s
        (judged .garbled (some d.now))) ∧
    (∀ address kind toggle length spare payload good,
      RxFrame.formed (.response address kind toggle length spare payload good) = true →
      Becomes (.frameReport t ch (.response address kind toggle length spare payload good)) s
        (judged
          (if good = false then .garbled
          else if address.toNat ≠ st.val + 1 then .garbled
          else if (kind = 1 ∨ kind = 2) ∧ length.toNat ≠ 1 then .garbled
          else if kind = 1 ∧ payload.head? = some 4 then .garbled
          else if toggle ≠ a.toggle then .stale
          else if kind = 0 ∧ length.toNat ≠ expected then .garbled
          else if kind = 0 then .validAck payload
          else if kind = 1 then .validNak (payload.headD 0)
          else .validHold (payload.headD 0)) (some d.now)))

/-- Reports while LISTENING and elsewhere: what is not a valid alert advances ALERT_GARBLED, saturating, at most once for
one stretch; a valid alert goes to the station table and the alert unit with the ALERT window of the CALL. A report that
comes before its stretch's quiet leaves the channel listening; one that comes after it ends the stretch, and the channel
then enters OFF with a CHANNEL_DISABLE parked or the part HALTED, IDLE when its window has ended, and listens on otherwise
(R114, R115). A non-frame report and the quiet of the same moment leave the same state in either order (the model's reading,
log entry 24). In IDLE, CHATTER, OFF, STUCK, QUIET_WAIT, SENDING and AWAITING reports are discarded and counted in no
counter: only that the stretch has had its report is noted (R2, R35, R112, R116). -/
def Obligations.AlertsHeard : Prop :=
  ∀ (t : Moment) (ch : ChanId) (s : State),
    let d := s.dev.tick t
    let c := s.dev.chan ch
    (∀ l, c.state = .listening → c.listening = some l →
      let heard := d.setChan ch { c with unreported := false }
      let counted := if l.counted then heard else d.setChan ch { c with
        unreported := false
        listening := some { l with counted := true }
        counters := { c.counters with alertGarbled := min (c.counters.alertGarbled + 1) (2 ^ 32 - 1) } }
      let ended (e : Dev) : Dev := e.setChan ch { e.chan ch with
        listening := (e.chan ch).listening.map fun l => { l with stretch := none } }
      let classifies (i : Instr) (e : Dev) : Prop :=
        (c.lineActive = true ∨ l.stretch = none → Becomes i s e) ∧
        (c.lineActive = false → l.stretch ≠ none →
          (s.dev.disableParked ch = true → Becomes i s ((ended e).activityOver ch)) ∧
          (s.dev.disableParked ch = false → l.ended = true ∨ s.dev.port.part = .halted →
            Becomes i s ((ended e).enterIdle ch)) ∧
          (s.dev.disableParked ch = false → l.ended = false → s.dev.port.part ≠ .halted → Becomes i s (ended e)))
      classifies (.malformedFrameReport t ch) counted ∧ classifies (.nonFrameActivity t ch) counted ∧
      (∀ f, RxFrame.formed f = true → RxFrame.validAlert f = none → classifies (.frameReport t ch f) counted) ∧
      (∀ address priority length code spare payload st,
        RxFrame.formed (.alert address priority length code spare payload true) = true →
        stationId address.toNat = some st →
        classifies (.frameReport t ch (.alert address priority length code spare payload true))
          (heard.hearAlert ch l.window { station := st, priority := priority.toFin, code := code, payload := payload })) ∧
      (∀ m, l.stretch = some m → c.unreported = true → c.lineActive = true →
        ∃ quiet report both, exec (.lineQuiet t ch) s = .next quiet ∧ exec (.nonFrameActivity t ch) s = .next report ∧
          exec (.nonFrameActivity t ch) quiet = .next both ∧ exec (.lineQuiet t ch) report = .next both)) ∧
    (c.state ∈ [.off, .idle, .quietWait, .sending, .awaiting, .chatter, .stuck] → ∀ f,
      let noted := d.setChan ch { c with unreported := false }
      Becomes (.malformedFrameReport t ch) s noted ∧ Becomes (.nonFrameActivity t ch) s noted ∧
      Becomes (.frameReport t ch f) s noted)

/-- A valid alert: READY ends its station's hold, any alert revives a QUARANTINED station as UNKNOWN with no failures, and no
other record is changed, whatever the alert unit decides (R27). The alert unit then decides it; an accepted alert whose
priority used maps to an ACTIVE completion ring with room and no lost alerts is queued there with a claim, as the ALERT entry of
R123; without room it is counted lost, and steered to DISCARD or rejected it leaves no trace (R116, R118, R122, R138). While
HALTED only the station record is changed (R129). The channel is not IDLE where the record changes: it is LISTENING (R27). -/
def Obligations.AlertPosted : Prop :=
  ∀ (d : Dev) (ch : ChanId) (w : WindowId) (a : AlertFrame),
    let x := d.station ch a.station
    let y : StationRec := if x.hold.isSome then { x with hold := if a.code = 0 then none else x.hold }
      else if x.presence = .quarantined then { x with presence := .unknown, failures := 0 } else x
    let e := d.setStation ch a.station y
    (x.hold.isSome = true → x.presence ≠ .quarantined) → (x ≠ y → (d.chan ch).state ≠ .idle) →
    (d.port.part = .halted → d.hearAlert ch w a = e) ∧
    (d.port.part ≠ .halted → d.alert.decide ch a = none → d.hearAlert ch w a = e) ∧
    (∀ used, d.port.part ≠ .halted → d.alert.decide ch a = some used →
      (d.alert.map[used] = .discard → d.hearAlert ch w a = e) ∧
      (∀ cr, d.alert.map[used] = .cr cr →
        let z := d.cring cr
        (z.state = .active → z.lost = 0 → 1 ≤ z.room → d.hearAlert ch w a = e.setCring cr { z with
          slots := z.slots.post { entry := {
            kind := .alert, source := ch.val, status := used.val
            presence := y.presence.code, detail := BitVec.ofNat 32 a.code.toNat
            station := a.station.val + 1, length := a.payload.length
            cycle := w.cycle, window := w.index, payload := a.payload }, source := .alert } false }) ∧
        (z.state = .active → (z.lost ≠ 0 ∨ z.room = 0) →
          d.hearAlert ch w a = e.setCring cr { z with lost := min (z.lost + 1) 65535 }) ∧
        (z.state = .faulted → d.hearAlert ch w a = e.setCring cr { z with dropped := min (z.dropped + 1) (2 ^ 32 - 1) }) ∧
        (z.state = .disabled → d.hearAlert ch w a = e)))

/-- The alert unit's decision: DROP_ALL rejects, PASS_ALL accepts with the frame priority; in FILTER and FILTER_INVERSE the
first entry that matches decides, its override applying to an ACCEPT, and with no match the bin (code XOR 4 × station)
modulo 64 decides, set accepting in FILTER and clear in FILTER_INVERSE (R118 to R122). An entry matches when it is valid,
its mask has the channel, its station is ANY or the alert's, and the codes agree at every bit of the code mask (R119). -/
def Obligations.FilterDecides : Prop :=
  ∀ (u : AlertUnit) (ch : ChanId) (a : AlertFrame),
    let bin := (a.code.toNat ^^^ 4 * (a.station.val + 1)) % 64
    let filters := u.modes[ch] = .filter ∨ u.modes[ch] = .filterInverse
    (∀ e : FilterEntry, e.applies ch a = true ↔
      e.valid = true ∧ e.channels.getLsbD ch.val = true ∧ (e.station = 0 ∨ e.station = a.station.val + 1) ∧
      ∀ i, i < 8 → e.mask.getLsbD i = true → a.code.getLsbD i = e.code.getLsbD i) ∧
    (u.modes[ch] = .dropAll → u.decide ch a = none) ∧
    (u.modes[ch] = .passAll → u.decide ch a = some a.priority) ∧
    (∀ k : Fin 16, filters → u.table[k].applies ch a = true → (∀ j : Fin 16, j < k → u.table[j].applies ch a = false) →
      (u.table[k].action = .accept → u.decide ch a = some (u.table[k].override.getD a.priority)) ∧
      (u.table[k].action = .reject → u.decide ch a = none)) ∧
    ((∀ j : Fin 16, u.table[j].applies ch a = false) →
      (u.modes[ch] = .filter → u.decide ch a = if u.bins.getLsbD bin then some a.priority else none) ∧
      (u.modes[ch] = .filterInverse → u.decide ch a = if u.bins.getLsbD bin then none else some a.priority))

/-! ## The channel's timers -/

/-- RESPONSE_WINDOW_EXPIRY and TRAILING_GAP_ELAPSED end an attempt at the moment their rule fixes: the verdict is NONE at
the end of the response window, or the verdict of R14 when one gap has passed in quiet, or the successful end of a
broadcast. The verdict's counter advances (TIMEOUTS for NONE, GARBLED for GARBLED and STALE, NAKS, HOLDS, none for
VALID_ACK), the activity is accounted from its end, the attempt record is removed, and the channel is IDLE, or in QUIET_WAIT
with a new selection, or OFF (R13, R15, R16, R37, R41, R65, R111). -/
def Obligations.AttemptEnds : Prop :=
  ∀ (ch : ChanId) (s : State) (a : Attempt),
    let c := s.dev.chan ch
    let k := c.counters
    let counted (v : Verdict) : Counters := match v with
      | .none => { k with timeouts := min (k.timeouts + 1) (2 ^ 32 - 1) }
      | .garbled | .stale => { k with garbled := min (k.garbled + 1) (2 ^ 32 - 1) }
      | .validNak _ => { k with naks := min (k.naks + 1) (2 ^ 32 - 1) }
      | .validHold _ => { k with holds := min (k.holds + 1) (2 ^ 32 - 1) }
      | .validAck _ => k
    let endsBy (i : Instr) (due : Moment) (v : Verdict) (endsAt : Moment) : Prop :=
      ∃ u, exec i s = .next u ∧ u.pending = s.pending ∧ u.mem = s.mem ∧
        u.dev = ((s.dev.tick due).finishAttempt ch v endsAt false).activityOver ch ∧
        u.dev.now = max s.dev.now due ∧ (u.dev.chan ch).attempt = none ∧
        (u.dev.chan ch).counters = (Channel.account { c with counters := counted v } endsAt).counters ∧
        (u.dev.chan ch).state ∈ [.idle, .quietWait, .off] ∧ u.dev.alert = s.dev.alert
    c.attempt = some a →
    (∀ w, c.state = .awaiting → a.kind = .transaction → a.respWindow = some w →
      endsBy (.responseWindowExpiry ch) (a.opened + 8 * w) .none (a.opened + 8 * w)) ∧
    (∀ v e, c.state = .receiving → a.provisional = some v → a.respEnd = some e → c.lineActive = false →
      endsBy (.trailingGapElapsed ch) (max e c.lastQuiet + c.gap * c.rate.bit) v e) ∧
    (c.state = .awaiting → a.kind = .broadcast → c.lineActive = false →
      endsBy (.trailingGapElapsed ch) (a.opened + c.gap * c.rate.bit) (.validAck []) a.opened)

/-- QUIET_FOUND in QUIET_WAIT, one gap after the last quiet transition or at once: a selection that still meets every
condition starts its attempt, with the head ON_LINE, its attempts one more, the station marked and the command sent with the
station's toggle and the resync flag of an UNKNOWN or QUARANTINED station; a CALL whose window is current is sent; any other
selection is dropped (R4, R6, R7, R38, R94, R95). -/
def Obligations.QuietFoundSends : Prop :=
  ∀ (ch : ChanId) (s : State) (w : WindowRec),
    let c := s.dev.chan ch
    let quiet := max c.since (c.lastQuiet + c.gap * c.rate.bit)
    let d := s.dev.tick quiet
    let id : WindowId := { cycle := w.cycle, index := w.index, ends := w.ends }
    c.state = .quietWait → c.lineActive = false → quiet ≤ c.since + 8 * c.quietLimit → c.window = some w →
    (∀ r v st, c.selection = some (.transaction r v.staged.slot) → s.dev.headOf r = some v →
      v.station = some st → d.candidate ch w r = true →
      let x := s.dev.station ch st
      let t := v.staged.record
      let resync := x.presence != .present
      Becomes (.quietFound ch) s
        (((d.setRing r { s.dev.ring r with head := some { v.head with
            state := .onLine, attempts := v.head.attempts + 1, window := some (w.cycle, w.index)
            retryLimit := some (v.head.retryLimit.getD (if t.retryFlag then t.retryLimit else x.retryLimit))
            holdLimit := some (v.head.holdLimit.getD (if t.holdFlag then t.holdLimit else x.holdLimit)) } }).setStation ch st
              { x with mark := true }).setChan ch { c with
          state := .sending, selection := none, lastGranted := r
          attempt := some {
            kind := .transaction, ring := some r, station := some st, toggle := x.toggle, resync := resync
            expected := some t.bytesIn, window := id }
          tx := some (commandFrame t x.toggle resync)
          sendEnds := d.now + (commandFrame t x.toggle resync).bitLength * c.rate.bit
          activity := some { ownEnd := w.ends, crossed := [] }
          counters := { c.counters with attempts := min (c.counters.attempts + 1) (2 ^ 32 - 1) } })) ∧
    (∀ r v, c.selection = some (.transaction r v.staged.slot) → s.dev.headOf r = some v →
      v.station = none → d.candidate ch w r = true →
      let t := v.staged.record
      Becomes (.quietFound ch) s
        ((d.setRing r { s.dev.ring r with head := some { v.head with
            state := .onLine, attempts := v.head.attempts + 1, window := some (w.cycle, w.index)
            retryLimit := some (v.head.retryLimit.getD (if t.retryFlag then t.retryLimit else 0))
            holdLimit := some (v.head.holdLimit.getD (if t.holdFlag then t.holdLimit else 0)) } }).setChan ch { c with
          state := .sending, selection := none, lastGranted := r
          attempt := some {
            kind := .broadcast, ring := some r, station := none, toggle := false, resync := false
            expected := none, window := id }
          tx := some (commandFrame t false false)
          sendEnds := d.now + (commandFrame t false false).bitLength * c.rate.bit
          activity := some { ownEnd := w.ends, crossed := [] }
          counters := { c.counters with attempts := min (c.counters.attempts + 1) (2 ^ 32 - 1) } })) ∧
    (∀ call : WindowId, c.selection = some (.call call) →
      (w.kind = .alert → w.cycle = call.cycle → w.index = call.index →
        Becomes (.quietFound ch) s (d.setChan ch { c with
          state := .sending, selection := none
          attempt := some {
            kind := .call, ring := none, station := none, toggle := false, resync := false, expected := none, window := call }
          tx := some callFrame, sendEnds := d.now + 64 * c.rate.bit
          activity := some { ownEnd := call.ends, crossed := [] } })) ∧
      (w.kind ≠ .alert ∨ w.cycle ≠ call.cycle ∨ w.index ≠ call.index →
        Becomes (.quietFound ch) s (d.enterIdle ch))) ∧
    (∀ r slot, c.selection = some (.transaction r slot) →
      (s.dev.headOf r = none ∨ (∃ v, s.dev.headOf r = some v ∧ v.staged.slot ≠ slot) ∨ d.candidate ch w r = false) →
      Becomes (.quietFound ch) s (d.enterIdle ch)) ∧
    (c.selection = some .left → Becomes (.quietFound ch) s (d.enterIdle ch))

/-- CHATTER_QUIET_FOUND and CHATTER_LIMIT_EXPIRY: an attempt that led into CHATTER is GARBLED, its activity ending at the last
quiet transition and the channel returning to IDLE, or at the expiry with line fault and the channel STUCK; a listening is
accounted alone. The expiry wins only when no gap of quiet was found before it (R42, R43, R65). -/
def Obligations.ChatterEnds : Prop :=
  ∀ (ch : ChanId) (s : State),
    let c := s.dev.chan ch
    let quiet := max c.since (c.lastQuiet + c.gap * c.rate.bit)
    let due := c.since + 8 * c.chatterLimit
    c.state = .chatter →
    (c.lineActive = false → quiet ≤ due → c.attempt.isSome →
      Becomes (.chatterQuietFound ch) s
        (((s.dev.tick quiet).finishAttempt ch .garbled c.lastQuiet false).activityOver ch)) ∧
    (c.lineActive = false → quiet ≤ due → c.attempt = none →
      Becomes (.chatterQuietFound ch) s (((s.dev.tick quiet).setChan ch (c.account c.lastQuiet)).activityOver ch)) ∧
    (c.lineActive = true ∨ due ≤ quiet → c.attempt.isSome →
      Becomes (.chatterLimitExpiry ch) s (((s.dev.tick due).finishAttempt ch .garbled due true).enterStuck ch)) ∧
    (c.lineActive = true ∨ due ≤ quiet → c.attempt = none → s.dev.port.part ≠ .halted → s.dev.disableParked ch = false →
      Becomes (.chatterLimitExpiry ch) s (Dev.enterEvent ((s.dev.tick due).setChan ch { c.account due with
        state := .stuck, selection := none, attempt := none, tx := none, listening := none, activity := none })
        .channelStuck ch.val)) ∧
    (c.lineActive = true ∨ due < quiet → exec (.chatterQuietFound ch) s = .next s) ∧
    (c.lineActive = false → quiet < due → exec (.chatterLimitExpiry ch) s = .next s)

/-- QUIET_WAIT_LIMIT_EXPIRY: with no gap of quiet before the limit, the selection is dropped and the channel is STUCK,
CHANNEL_STUCK being entered; a selected head that waits with its reservation is first completed LINE_FAULT with the attempts
and holds it has, and in every other case nothing is completed (R39, R43, R102). -/
def Obligations.QuietWaitLimitSticks : Prop :=
  ∀ (ch : ChanId) (s : State),
    let c := s.dev.chan ch
    let quiet := max c.since (c.lastQuiet + c.gap * c.rate.bit)
    let due := c.since + 8 * c.quietLimit
    let d := s.dev.tick due
    c.state = .quietWait → c.lineActive = true ∨ due ≤ quiet →
    (∀ r v, c.selection = some (.transaction r v.staged.slot) → s.dev.headOf r = some v → v.head.waiting = true →
      Becomes (.quietWaitLimitExpiry ch) s ((d.assignFinal r (d.finalOf v .lineFault)).enterStuck ch)) ∧
    ((∀ r slot, c.selection = some (.transaction r slot) → s.dev.headOf r = none ∨
        ∃ v, s.dev.headOf r = some v ∧ (v.staged.slot ≠ slot ∨ v.head.waiting = false)) → s.dev.port.part ≠ .halted →
      s.dev.disableParked ch = false →
      Becomes (.quietWaitLimitExpiry ch) s (Dev.enterEvent (d.setChan ch { c with
        state := .stuck, selection := none, attempt := none, tx := none, listening := none, activity := none })
        .channelStuck ch.val))

/-- OVERLONG_RESPONSE and OVERLONG_ALERT_STRETCH: with the line still active 304 or 120 bit times and one gap after its
activity start the response is GARBLED, or the stretch is counted in ALERT_GARBLED, and the channel is in CHATTER, whose
limit starts to run (R41, R42, R48, R113); with the line quiet, neither takes place (log entry 2). That a stretch already
counted for a report inside it is not counted again follows R112 ('at most once') where R113 names no exception: the model's
reading, log entry 8. -/
def Obligations.OverlongActivityChatters : Prop :=
  ∀ (ch : ChanId) (s : State),
    let c := s.dev.chan ch
    (c.lineActive = false → exec (.overlongResponse ch) s = .next s ∧ exec (.overlongAlertStretch ch) s = .next s) ∧
    (∀ a, c.state = .receiving → c.attempt = some a → a.provisional = none → c.lineActive = true →
      let d := s.dev.tick (a.started + (304 + c.gap) * c.rate.bit)
      Becomes (.overlongResponse ch) s (d.setChan ch { c with
        state := .chatter, since := d.now, listening := none
        attempt := some { a with provisional := some .garbled } })) ∧
    (∀ l m, c.state = .listening → c.listening = some l → l.stretch = some m → c.lineActive = true →
      let d := s.dev.tick (m + (120 + c.gap) * c.rate.bit)
      Becomes (.overlongAlertStretch ch) s (d.setChan ch { c with
        state := .chatter, since := d.now, listening := none
        counters := if l.counted then c.counters
          else { c.counters with alertGarbled := min (c.counters.alertGarbled + 1) (2 ^ 32 - 1) } }))

/-- FRAME_SENT at the frame end, which is the quiet transition of R40: a transaction awaits its response in its station's
response window, read now, a broadcast awaits its trailing gap, and a CALL opens the listening until its ALERT window ends,
unless that window has ended (R13, R16, R40, R48, R57). A station's activity under way then goes on: after a broadcast it is
activity in the gap, and the channel passes to CHATTER (R16); after a CALL it is a stretch of the listening, from its
activity start on, and the activity that R65 accounts (R45, R48, R67, R114). Both are the model's reading (log entry 23). -/
def Obligations.FrameSentReleases : Prop :=
  ∀ (ch : ChanId) (s : State) (a : Attempt),
    let c := s.dev.chan ch
    let d := s.dev.tick c.sendEnds
    let free : Channel := { c with lastQuiet := c.sendEnds, tx := none }
    c.state = .sending → c.attempt = some a →
    (∀ st, a.kind = .transaction → a.station = some st →
      Becomes (.frameSent ch) s (d.setChan ch { free with
        state := .awaiting
        attempt := some { a with opened := c.sendEnds, respWindow := some (s.dev.station ch st).respWindow } })) ∧
    (a.kind = .broadcast → c.lineActive = false →
      Becomes (.frameSent ch) s (d.setChan ch { free with
        state := .awaiting, attempt := some { a with opened := c.sendEnds, respWindow := none } })) ∧
    (a.kind = .broadcast → c.lineActive = true →
      Becomes (.frameSent ch) s (d.setChan ch { free with
        state := .chatter, since := d.now, listening := none
        attempt := some { a with opened := c.sendEnds, respWindow := none, provisional := some .garbled } })) ∧
    (∀ w, a.kind = .call → s.dev.disableParked ch = false → s.dev.port.part ≠ .halted → c.window = some w →
      (w.cycle = a.window.cycle → w.index = a.window.index → c.sendEnds < a.window.ends →
        Becomes (.frameSent ch) s (d.setChan ch { free.account c.sendEnds with
          state := .listening, attempt := none
          listening := some {
            window := a.window, ended := false, stretch := if c.lineActive then some c.activeSince else none }
          activity := if c.lineActive then some { ownEnd := a.window.ends, crossed := [] } else none })) ∧
      (a.window.ends ≤ c.sendEnds ∨ w.cycle ≠ a.window.cycle ∨ w.index ≠ a.window.index →
        Becomes (.frameSent ch) s
          ((d.setChan ch { free.account c.sendEnds with attempt := none }).enterIdle ch)))

/-! ## The schedule -/

/-- CYCLE_START at the end of the current cycle: the counter advances by one, wrapping, the steps of R53 follow, and with no
commit parked window 0 of the operational list is the current window until its duration has passed (R51, R52, R53, R54).
After the cycle start no station of the channel has a hold whose expiry is not after the new cycle number, a later hold
stands, and no other field of a record that step 3 may touch has changed (R26); no waiting head with its reservation, in a ring
bound to the channel that is ACTIVE, STOPPING or FAULTED, has a deadline that has passed (R88).
SCHEDULE_SWAP is the cycle start at which a parked commit is due: the operational list becomes the first pending slots; with
no commit due nothing happens (R60, R61; the model's choice of the step, log entry 3). In OFF no cycle starts. -/
def Obligations.CycleStartAdvances : Prop :=
  ∀ (ch : ChanId) (s : State),
    let c := s.dev.chan ch
    let due := c.cycleStart + c.cycleLength
    let d : Dev := (s.dev.tick due).setChan ch { c with cycle := c.cycle + 1 }
    (c.state = .off → exec (.cycleStart ch) s = .next s ∧ exec (.scheduleSwap ch) s = .next s) ∧
    (d.dueCommit ch = none → exec (.scheduleSwap ch) s = .next s) ∧
    (c.state ≠ .off → ∃ u, exec (.cycleStart ch) s = .next u ∧ u.pending = s.pending ∧ u.mem = s.mem ∧
      u.dev = d.cycleSteps ch due ∧ u.dev.now = max s.dev.now due ∧
      (u.dev.chan ch).cycle = c.cycle + 1 ∧ (u.dev.chan ch).cycleStart = due ∧
      (u.dev.chan ch).cycleLength = cycleTime (u.dev.chan ch).operational ∧
      (∀ st,
        let x := s.dev.station ch st
        let y := u.dev.station ch st
        (∀ e, y.hold = some e → Cycle.after e (c.cycle + 1) = true) ∧
        (∀ e, x.hold = some e → Cycle.after e (c.cycle + 1) = true → y.hold = some e) ∧
        (x.hold = none → y.hold = none) ∧ y.toggle = x.toggle ∧ y.failures = x.failures ∧ y.mark = x.mark) ∧
      (∀ r v, u.dev.headOf r = some v → v.binding.channel = ch → (u.dev.ring r).state ∈ [.active, .stopping, .faulted] →
        v.head.waiting = true →
        ¬ (v.staged.record.deadlineFlag = true ∧ Cycle.before v.staged.record.deadline (c.cycle + 1) = true)) ∧
      (d.dueCommit ch = none → (u.dev.chan ch).operational = c.operational) ∧
      (∀ length late, d.dueCommit ch = some (length, late) →
        (u.dev.chan ch).operational = (c.slots.toList.take length).filterMap id ∧ exec (.scheduleSwap ch) s = .next u) ∧
      (∀ w ws, d.dueCommit ch = none → c.operational = w :: ws → s.dev.port.part ≠ .halted →
        ∃ x, (u.dev.chan ch).window = some x ∧ x.cycle = c.cycle + 1 ∧ x.index = 0 ∧ x.kind = w.kind ∧
          x.classes = w.classes ∧ x.ends = due + 8 * w.duration))

/-- WINDOW_START at the end of the current window: the record is replaced by the next window's; an IDLE channel arbitrates
in a TRANSACT window and selects the CALL of an ALERT window, a LISTENING channel ends its listening with the line quiet or
waits for its stretch, its report included (R67, R114; log entry 24), and every other state goes on (R48, R54, R56). After
the last window of the cycle no window starts. -/
def Obligations.WindowStartByState : Prop :=
  ∀ (ch : ChanId) (s : State) (w : WindowRec),
    let c := s.dev.chan ch
    let d := s.dev.tick w.ends
    let i : Instr := .windowStart ch
    c.state ≠ .off → c.window = some w →
    (c.operational.length ≤ w.index + 1 → exec i s = .next s) ∧
    (∀ n, c.operational[w.index + 1]? = some n →
      let x : WindowRec := {
        cycle := c.cycle, index := w.index + 1, kind := n.kind, classes := n.classes, ends := w.ends + 8 * n.duration
        call := if n.kind = .alert then .due else .notDue }
      let next : Channel := { c.cross with window := some x }
      (c.state ∈ [.quietWait, .sending, .awaiting, .receiving, .chatter, .stuck] → Becomes i s (d.setChan ch next)) ∧
      (c.state = .idle → n.kind = .quiet → Becomes i s (d.setChan ch next)) ∧
      (c.state = .idle → n.kind = .transact → Becomes i s ((d.setChan ch next).arbitrate ch)) ∧
      (c.state = .idle → n.kind = .alert → Becomes i s (d.setChan ch { next with
        state := .quietWait, since := d.now
        selection := some (.call { cycle := x.cycle, index := x.index, ends := x.ends })
        window := some { x with call := .sent } })) ∧
      (∀ l, c.state = .listening → c.listening = some l →
        (c.lineActive = false → l.stretch = none → Becomes i s ((d.setChan ch next).enterIdle ch)) ∧
        (c.lineActive = true ∨ l.stretch ≠ none →
          Becomes i s (d.setChan ch { next with listening := some { l with ended := true } }))))

/-- HOLD_EXPIRY removes a hold whose expiry is not after the channel's cycle number, and reports it, which is an arbitration
occasion for an IDLE channel; a later hold stays (R20, R26, R90). DEADLINE_PASSED completes a head EXPIRED that waits with its
reservation and whose deadline is before the channel's cycle number; any other head stays (R88). Taken apart from their cycle
start, both are the model's choice (log entry 3). -/
def Obligations.ExpiriesOfACycle : Prop :=
  ∀ (ch : ChanId) (st : StationId) (r : RingId) (s : State),
    let c := s.dev.chan ch
    let x := s.dev.station ch st
    let removed := s.dev.setStation ch st { x with hold := none }
    (∀ e, c.state ≠ .off → x.hold = some e → x.presence ≠ .quarantined →
      (Cycle.after e c.cycle = false → Becomes (.holdExpiry ch st) s (removed.arbitrate ch)) ∧
      (Cycle.after e c.cycle = false → c.state ≠ .idle → Becomes (.holdExpiry ch st) s removed) ∧
      (Cycle.after e c.cycle = true → exec (.holdExpiry ch st) s = .next s)) ∧
    (x.hold = none ∨ c.state = .off → exec (.holdExpiry ch st) s = .next s) ∧
    (∀ v, s.dev.headOf r = some v → (s.dev.chan v.binding.channel).state ≠ .off →
      let state := (s.dev.ring r).state
      let passed := v.staged.record.deadlineFlag = true ∧
        Cycle.before v.staged.record.deadline (s.dev.chan v.binding.channel).cycle = true
      (state ∈ [.active, .stopping, .faulted] → v.head.waiting = true → passed →
        Becomes (.deadlinePassed r) s (s.dev.assignFinal r (s.dev.finalOf v .expired))) ∧
      (state ∈ [.disabled, .stopped] ∨ v.head.waiting = false ∨ ¬ passed → exec (.deadlinePassed r) s = .next s))

/-! ## Control commands -/

/-- NOP, STATION_READ and COUNTERS_READ complete DONE: NOP with the number of WAITING commands as its detail; STATION_READ with
a copy of the record, which stays; COUNTERS_READ with the eight counters and the channel state, the counters returning to 0
when the clear flag is set (R32, R153, R160, R161). -/
def Obligations.ReadingCommandsAnswer : Prop :=
  ∀ (t : Moment) (s : State) (record : Record),
    let d := s.dev.tick t
    (s.dev.Taking record .nop →
      Becomes (.nop t) s (d.answered record .done (s.dev.engine.parked.countP fun k => k.waiting) [])) ∧
    (∀ ch st, s.dev.Taking record (.stationRead ch st) →
      Becomes (.stationRead t) s (d.answered record .done 0 (s.dev.station ch st).bytes)) ∧
    (∀ ch clear, s.dev.Taking record (.countersRead ch clear) →
      let c := s.dev.chan ch
      let k := c.counters
      Becomes (.countersRead t) s
        ((d.setChan ch { c with counters := if clear then {} else k }).answered record .done c.state.code
          (leBytes k.attempts 4 ++ leBytes k.timeouts 4 ++ leBytes k.garbled 4 ++ leBytes k.naks 4 ++ leBytes k.holds 4 ++
            leBytes k.overruns 4 ++ leBytes k.windowsLost 4 ++ leBytes k.alertGarbled 4)))

/-- FILTER_WRITE replaces one entry of the filter table, FILTER_BINS all 64 bins, FILTER_MODE the mode of one channel, ALERT_MAP
all eight entries of the priority map; each completes DONE, in every state, and changes nothing else (R124 to R127). -/
def Obligations.AlertCommandsWrite : Prop :=
  ∀ (t : Moment) (s : State) (record : Record),
    let d := s.dev.tick t
    let u := s.dev.alert
    let done (u : AlertUnit) : Dev := Dev.answered { d with alert := u } record .done 0 []
    (∀ k e, s.dev.Taking record (.filterWrite k e) → Becomes (.filterWrite t) s (done { u with table := u.table.set k e })) ∧
    (∀ bins, s.dev.Taking record (.filterBins bins) → Becomes (.filterBins t) s (done { u with bins := bins })) ∧
    (∀ ch m, s.dev.Taking record (.filterMode ch m) → Becomes (.filterMode t) s (done { u with modes := u.modes.set ch m })) ∧
    (∀ map, s.dev.Taking record (.alertMap map) → Becomes (.alertMap t) s (done { u with map := map }))

/-- RING_SETUP on a DISABLED ring, or a STOPPED one with nothing staged or in flight, writes the setup, zeroes the three
indices, leaves the ring STOPPED and has consumer index 0 published, whose report completes it; in any other state it is
BAD_STATE, and BUSY during a flush (R78, R85). CRING_SETUP does the like for a completion ring that is DISABLED, or FAULTED
without reservations, and gives out its room (R131, R132). -/
def Obligations.SetupCommandsWrite : Prop :=
  ∀ (t : Moment) (s : State) (record : Record),
    let d := s.dev.tick t
    let later (d : Dev) : Dev := { d with engine := { d.engine with answering := true } }
    (∀ r base b, s.dev.Taking record (.ringSetup r base b) →
      let x := s.dev.ring r
      let open_ := x.state = .disabled ∨ (x.state = .stopped ∧ x.staging = [] ∧ x.reading = none)
      (s.dev.flushing r = true → Becomes (.ringSetup t) s (d.answered record .busy 0 [])) ∧
      (s.dev.flushing r = false → open_ → Becomes (.ringSetup t) s
        ((later (d.setRing r {
          state := .stopped, base := base, binding := some b, post := 0, fetch := 0, consumer := 0, reading := none
          staging := [], head := none })).publish (fieldRing r) 0 .ringSetup)) ∧
      (s.dev.flushing r = false → ¬ open_ → Becomes (.ringSetup t) s (d.answered record .badState 0 []))) ∧
    (∀ c base size, s.dev.Taking record (.cringSetup c base size) →
      let x := s.dev.cring c
      let open_ := x.state = .disabled ∨ (x.state = .faulted ∧ x.slots.reservations = 0)
      (open_ → Becomes (.cringSetup t) s
        (((later (d.setCring c {
          state := .active, waiters := x.waiters, lost := 0, dropped := 0
          slots := {
            base := base, size := size, producer := 0, consumer := 0, reservations := 0, posting := [], stage := .idle } })
          ).publish (fieldCring c) 0 (.cringSetup x.dropped)).giveRoom c)) ∧
      (¬ open_ → Becomes (.cringSetup t) s (d.answered record .badState 0 [])))

/-- RING_START takes a STOPPED ring to ACTIVE, its head asking for a reservation and fetching resuming, and completes DONE; in
any other state it is BAD_STATE, and BUSY during a flush (R79, R85). -/
def Obligations.RingStartActivates : Prop :=
  ∀ (t : Moment) (s : State) (record : Record) (r : RingId),
    let d := s.dev.tick t
    let x := s.dev.ring r
    let started := d.setRing r { x with state := .active }
    s.dev.Taking record (.ringStart r) →
    (s.dev.flushing r = true → Becomes (.ringStart t) s (d.answered record .busy 0 [])) ∧
    (s.dev.flushing r = false → x.state = .stopped →
      Becomes (.ringStart t) s (((started.askReservation r).judgeFetch r).answered record .done 0 []) ∧
      (x.head = none → x.fetch = x.post → Becomes (.ringStart t) s (started.answered record .done 0 []))) ∧
    (s.dev.flushing r = false → x.state ≠ .stopped → Becomes (.ringStart t) s (d.answered record .badState 0 []))

/-- RING_STOP takes an ACTIVE ring to STOPPING and parks, and STOPPED is reached when R81 allows; STOPPED completes DONE,
DISABLED BAD_STATE, STOPPING BUSY; a FAULTED ring is STOPPED at once when nothing is staged and parks otherwise (R80, R81,
R82, R85). -/
def Obligations.RingStopByState : Prop :=
  ∀ (t : Moment) (s : State) (record : Record) (r : RingId),
    let d := s.dev.tick t
    let x := s.dev.ring r
    let i : Instr := .ringStop t
    s.dev.Taking record (.ringStop r) →
    (s.dev.flushing r = true → Becomes i s (d.answered record .busy 0 [])) ∧
    (s.dev.flushing r = false →
      (x.state = .active → x.quiet = false ∨ x.reading.isSome →
        Becomes i s ((d.setRing r { x with state := .stopping }).parkedAtTail record .none)) ∧
      (x.state = .active → x.quiet = true → x.reading = none → x.binding ≠ none →
        ∃ u, exec i s = .next u ∧ u.pending = s.pending ∧ u.mem = s.mem ∧ u.dev.now = max s.dev.now t ∧
          (u.dev.ring r).state = .stopped ∧ (u.dev.ring r).staging = x.staging ∧ (u.dev.ring r).fetch = x.fetch ∧
          (∀ h, (u.dev.ring r).head = some h → h.reservation = .none) ∧ (∀ k, k ≠ r → u.dev.ring k = s.dev.ring k) ∧
          u.dev.channels = s.dev.channels ∧ u.dev.stations = s.dev.stations ∧ u.dev.port = s.dev.port ∧
          u.dev.alert = s.dev.alert) ∧
      (x.state = .disabled → Becomes i s (d.answered record .badState 0 [])) ∧
      (x.state = .stopped → Becomes i s (d.answered record .done 0 [])) ∧
      (x.state = .stopping → Becomes i s (d.answered record .busy 0 [])) ∧
      (x.state = .faulted → s.dev.hasParked (Command.isRingStop r) = true →
        Becomes i s (d.answered record .busy 0 [])) ∧
      (x.state = .faulted → s.dev.hasParked (Command.isRingStop r) = false → x.staging ≠ [] →
        Becomes i s (d.parkedAtTail record .none)) ∧
      (x.state = .faulted → s.dev.hasParked (Command.isRingStop r) = false → x.staging = [] →
        Becomes i s ((d.setRing r { x with state := .stopped }).answered record .done 0 [])))

/-- RING_FLUSH on a STOPPED ring with nothing staged and nothing to skip completes DONE at once with 0 skipped: answered in hand,
without parking and without a write of the consumer index, which is the model's reading (log entry 31); with nothing staged
otherwise it skips to the host post index and has it published; with records staged it parks, noting the host post index, and
the head asks for a reservation; in any other state it is BAD_STATE, and BUSY during a flush (R83, R85). -/
def Obligations.RingFlushByState : Prop :=
  ∀ (t : Moment) (s : State) (record : Record) (r : RingId),
    let d := s.dev.tick t
    let x := s.dev.ring r
    let i : Instr := .ringFlush t
    s.dev.Taking record (.ringFlush r) →
    (s.dev.flushing r = true → Becomes i s (d.answered record .busy 0 [])) ∧
    (s.dev.flushing r = false → x.state ≠ .stopped → Becomes i s (d.answered record .badState 0 [])) ∧
    (s.dev.flushing r = false → x.state = .stopped → x.staging = [] → x.fetch = x.post →
      Becomes i s (d.answered record .done 0 [])) ∧
    (∀ b, s.dev.flushing r = false → x.state = .stopped → x.staging = [] → x.fetch ≠ x.post → x.binding = some b →
      ∃ u, exec i s = .next u ∧ u.pending = s.pending ∧ u.mem = s.mem ∧ u.dev.now = max s.dev.now t ∧
        u.dev.ring r = { x with fetch := x.post, consumer := x.post } ∧ (∀ k, k ≠ r → u.dev.ring k = s.dev.ring k) ∧
        (s.dev.port.part ≠ .halted → u.dev.fieldQueue (fieldRing r) = (s.dev.fieldQueue (fieldRing r)).request {
          value := x.post, purpose := .flush r ((x.post + b.size - x.fetch) % b.size) }) ∧
        u.dev.channels = s.dev.channels ∧ u.dev.stations = s.dev.stations ∧ u.dev.crings = s.dev.crings ∧
        u.dev.alert = s.dev.alert) ∧
    (s.dev.flushing r = false → x.state = .stopped → x.staging ≠ [] →
      Becomes i s (((d.setEngine { s.dev.engine with
        phase := .idle, inHand := none
        parked := s.dev.engine.parked ++ [{ record := record, waiting := true, note := .flush x.post }] }).askReservation
          r).judgeEngine))

/-- CHANNEL_CONFIG writes the four values in OFF and completes DONE; elsewhere it is BAD_STATE (R34). CHANNEL_ENABLE starts
an OFF channel that has an operational list: the counter takes the given number, every hold being removed, or advances by
one; the first cycle starts at that moment with window 0 of the operational list, into which a commit that is due has
swapped; the channel leaves OFF for IDLE, or QUIET_WAIT with a selection; and the command completes DONE, its CONTROL entry
at the tail of the CCR's posting queue with the number of the first cycle and window index 0 (R44, R52, R53, R153). In any
other case it is BAD_STATE. While HALTED the channel is OFF again (the model's choice, log entry 10). The CONTROL entry of
any record, field by field (R153): what a command on a channel or a station that passed the checks carries of them, and zero
elsewhere. -/
def Obligations.ConfigAndEnable : Prop :=
  (∀ (t : Moment) (s : State) (record : Record) (ch : ChanId),
    let d := s.dev.tick t
    let c := s.dev.chan ch
    (∀ rate gap quiet chatter, s.dev.Taking record (.channelConfig ch rate gap quiet chatter) →
      (c.state = .off → Becomes (.channelConfig t) s
        ((d.setChan ch { c with rate := rate, gap := gap, quietLimit := quiet, chatterLimit := chatter }).answered
          record .done 0 [])) ∧
      (c.state ≠ .off → Becomes (.channelConfig t) s (d.answered record .badState 0 []))) ∧
    (∀ start, s.dev.Taking record (.channelEnable ch start) →
      let number := start.getD (c.cycle + 1)
      let due := (d.setChan ch { c with cycle := number }).dueCommit ch
      (c.state = .off → c.operational ≠ [] →
        ∃ u, exec (.channelEnable t) s = .next u ∧ u.pending = s.pending ∧ u.mem = s.mem ∧
          u.dev.engine.phase = .posting ∧
          u.dev.ccr.slots.posting.getLast? = some {
            entry := { kind := .control, source := 8, status := 0, tag := recordTag record, cycle := number, window := 0 }
            source := .inHand } ∧
          (s.dev.port.part ≠ .halted → (u.dev.chan ch).state ∈ [.idle, .quietWait]) ∧
          (s.dev.port.part = .halted → (u.dev.chan ch).state = .off) ∧
          (u.dev.chan ch).cycle = number ∧ (u.dev.chan ch).cycleStart = max s.dev.now t ∧
          (due = none → (u.dev.chan ch).operational = c.operational) ∧
          (∀ length late, due = some (length, late) →
            (u.dev.chan ch).operational = (c.slots.toList.take length).filterMap id) ∧
          (∀ w ws, s.dev.port.part ≠ .halted → (u.dev.chan ch).operational = w :: ws →
            ∃ x, (u.dev.chan ch).window = some x ∧ x.cycle = number ∧ x.index = 0 ∧ x.kind = w.kind ∧
              x.classes = w.classes ∧ x.ends = max s.dev.now t + 8 * w.duration) ∧
          (u.dev.chan ch).rate = c.rate ∧ (u.dev.chan ch).gap = c.gap ∧ (u.dev.chan ch).counters = c.counters ∧
          (start.isSome → ∀ st, (u.dev.station ch st).hold = none) ∧ u.dev.alert = s.dev.alert) ∧
      (c.state ≠ .off ∨ c.operational = [] → Becomes (.channelEnable t) s (d.answered record .badState 0 [])))) ∧
  (∀ (d : Dev) (record : Record) (status : ControlStatus) (detail : Nat) (payload : List Byte),
    let e := d.controlEntry record status detail payload
    let named := commandOf record
    let onStation (ch : ChanId) (st : StationId) : Prop :=
      (∃ setting, named = some (.stationSet ch st setting)) ∨ named = some (.stationRead ch st) ∨
      named = some (.stationRelease ch st)
    let onChannel (ch : ChanId) : Prop :=
      (∃ rate gap quiet chatter, named = some (.channelConfig ch rate gap quiet chatter)) ∨
      (∃ start, named = some (.channelEnable ch start)) ∨ named = some (.channelDisable ch) ∨
      named = some (.channelReset ch) ∨ (∃ start ws, named = some (.scheduleWrite ch start ws)) ∨
      (∃ length switch, named = some (.scheduleCommit ch length switch)) ∨ named = some (.scheduleCancel ch) ∨
      (∃ mode, named = some (.filterMode ch mode)) ∨ (∃ clear, named = some (.countersRead ch clear)) ∨
      (∃ st, onStation ch st)
    e.kind = .control ∧ e.source = byteAt record 0 ∧ e.tag = BitVec.ofNat 32 (field record 32 32) ∧
    e.status = (match status with
      | .done => 0 | .doneLate => 1 | .cancelled => 2 | .busy => 3 | .badState => 4 | .invalidParam => 5
      | .unknownCommand => 6) ∧
    e.detail = BitVec.ofNat 32 detail ∧ e.attempts = 0 ∧ e.holds = 0 ∧ e.length = payload.length ∧ e.payload = payload ∧
    (∀ ch st, onStation ch st → e.station = st.val + 1 ∧
      e.presence = if status = .done then (d.station ch st).presence.code else 0) ∧
    ((∀ ch st, ¬ onStation ch st) → e.station = 0 ∧ e.presence = 0) ∧
    (∀ ch, onChannel ch → e.cycle = (d.chan ch).cycle ∧
      ((d.chan ch).state = .off → e.window = 0) ∧
      (∀ w, (d.chan ch).state ≠ .off → (d.chan ch).window = some w → e.window = w.index)) ∧
    ((∀ ch, ¬ onChannel ch) → e.cycle = 0 ∧ e.window = 0))

/-- CHANNEL_DISABLE enters OFF at once where no line activity is in progress, and parks where one is; OFF completes DONE, STUCK
BAD_STATE, and a second one while one is parked BUSY (R45). -/
def Obligations.DisableByState : Prop :=
  ∀ (t : Moment) (s : State) (record : Record) (ch : ChanId),
    let d := s.dev.tick t
    let c := s.dev.chan ch
    let i : Instr := .channelDisable t
    let stopped : Channel := { c with
      state := .off, selection := none, attempt := none, window := none, tx := none, listening := none, activity := none }
    s.dev.Taking record (.channelDisable ch) →
    (s.dev.disableParked ch = true → Becomes i s (d.answered record .busy 0 [])) ∧
    (s.dev.disableParked ch = false →
      (c.state = .off → Becomes i s (d.answered record .done 0 [])) ∧
      (c.state = .stuck → Becomes i s (d.answered record .badState 0 [])) ∧
      (c.state = .idle ∨ c.state = .quietWait → Becomes i s ((d.setChan ch stopped).answered record .done 0 [])) ∧
      (c.state = .listening →
        (c.lineActive = false → Becomes i s ((d.setChan ch stopped).answered record .done 0 [])) ∧
        (c.lineActive = true → Becomes i s (d.parkedAtTail record .none))) ∧
      (c.state ∈ [.sending, .awaiting, .receiving, .chatter] → Becomes i s (d.parkedAtTail record .none)))

/-- CHANNEL_RESET in every channel state: the channel is OFF with no attempt, no selection and no window; no station of it has a
hold or the mark; its configuration, lists, cycle counter and counters are kept; the command completes (R28, R46). -/
def Obligations.ChannelResetAbandons : Prop :=
  ∀ (t : Moment) (s : State) (record : Record) (ch : ChanId), s.dev.Taking record (.channelReset ch) →
    ∃ u, exec (.channelReset t) s = .next u ∧ u.pending = s.pending ∧ u.mem = s.mem ∧
      u.dev.now = max s.dev.now t ∧ u.dev.engine.phase = .posting ∧ u.dev.alert = s.dev.alert ∧
      (let c := s.dev.chan ch
       let x := u.dev.chan ch
       x.state = .off ∧ x.attempt = none ∧ x.selection = none ∧ x.window = none ∧ x.rate = c.rate ∧ x.gap = c.gap ∧
       x.quietLimit = c.quietLimit ∧ x.chatterLimit = c.chatterLimit ∧ x.operational = c.operational ∧
       x.slots = c.slots ∧ x.cycle = c.cycle ∧ x.counters = c.counters ∧ x.lastGranted = c.lastGranted) ∧
      (∀ st, (u.dev.station ch st).hold = none ∧ (u.dev.station ch st).mark = false)

/-- SCHEDULE_WRITE writes its windows into consecutive pending slots, SCHEDULE_COMMIT swaps at once in OFF and parks elsewhere,
marked late when its switch cycle is before the current number, and SCHEDULE_CANCEL withdraws a parked commit; an empty slot
in the range is INVALID_PARAM, a parked commit makes the first two BUSY, and a cancel without one is BAD_STATE (R58, R59, R61,
R63). -/
def Obligations.ScheduleCommands : Prop :=
  ∀ (t : Moment) (s : State) (record : Record) (ch : ChanId),
    let d := s.dev.tick t
    let c := s.dev.chan ch
    let parked := s.dev.hasParked (Command.isCommit ch)
    (∀ start ws, s.dev.Taking record (.scheduleWrite ch start ws) →
      (parked = true → Becomes (.scheduleWrite t) s (d.answered record .busy 0 [])) ∧
      (parked = false → ∃ slots : Vector (Option Window) 32,
        (∀ k : Fin 32, slots[k] = if start ≤ k.val ∧ k.val < start + ws.length then ws[k.val - start]? else c.slots[k]) ∧
        Becomes (.scheduleWrite t) s ((d.setChan ch { c with slots := slots }).answered record .done 0 []))) ∧
    (∀ length switch, s.dev.Taking record (.scheduleCommit ch length switch) →
      let full := (c.slots.toList.take length).all Option.isSome
      (full = false → Becomes (.scheduleCommit t) s (d.answered record .invalidParam 0 [])) ∧
      (full = true → parked = true → Becomes (.scheduleCommit t) s (d.answered record .busy 0 [])) ∧
      (full = true → parked = false → c.state = .off → Becomes (.scheduleCommit t) s
        ((d.setChan ch { c with operational := (c.slots.toList.take length).filterMap id }).answered record .done 0 [])) ∧
      (full = true → parked = false → c.state ≠ .off → Becomes (.scheduleCommit t) s
        (d.parkedAtTail record (.commit (Cycle.before switch c.cycle))))) ∧
    (s.dev.Taking record (.scheduleCancel ch) →
      (parked = true → Becomes (.scheduleCancel t) s
        ((d.completeParked (Command.isCommit ch) .cancelled).answered record .done 0 [])) ∧
      (parked = false → Becomes (.scheduleCancel t) s (d.answered record .badState 0 [])))

/-- STATION_SET and STATION_RELEASE: with the attempt-in-flight mark set they park, with one of the same kind WAITING they are
BUSY, and otherwise they change the record and complete DONE; the change of a station whose channel is not IDLE, leaving it
not QUARANTINED, changes nothing else (R20, R29, R30, R31). -/
def Obligations.StationCommands : Prop :=
  ∀ (t : Moment) (s : State) (record : Record) (ch : ChanId) (st : StationId),
    let d := s.dev.tick t
    let x := s.dev.station ch st
    (∀ setting, s.dev.Taking record (.stationSet ch st setting) →
      let parked := s.dev.hasParked (Command.isStationSet ch st)
      (parked = true → Becomes (.stationSet t) s (d.answered record .busy 0 [])) ∧
      (parked = false → x.mark = true → Becomes (.stationSet t) s (d.parkedAtTail record .none)) ∧
      (parked = false → x.mark = false →
        Becomes (.stationSet t) s ((d.updateStation ch st (StationRec.set setting)).answered record .done 0 [])) ∧
      (parked = false → x.mark = false → setting.quarantined = false → (s.dev.chan ch).state ≠ .idle →
        Becomes (.stationSet t) s ((d.setStation ch st {
          presence := .unknown, toggle := false, hold := none, failures := 0, respWindow := setting.respWindow
          retryLimit := setting.retryLimit, holdLimit := setting.holdLimit, failLimit := setting.failLimit
          mark := false }).answered record .done 0 []))) ∧
    (s.dev.Taking record (.stationRelease ch st) →
      let parked := s.dev.hasParked (Command.isStationRelease ch st)
      (parked = true → Becomes (.stationRelease t) s (d.answered record .busy 0 [])) ∧
      (parked = false → x.mark = true → Becomes (.stationRelease t) s (d.parkedAtTail record .none)) ∧
      (parked = false → x.mark = false →
        Becomes (.stationRelease t) s ((d.updateStation ch st StationRec.release).answered record .done 0 [])) ∧
      (parked = false → x.mark = false → (s.dev.chan ch).state ≠ .idle →
        Becomes (.stationRelease t) s ((d.setStation ch st { x with
          hold := none
          presence := if x.presence = .quarantined then .unknown else x.presence
          failures := if x.presence = .quarantined then 0 else x.failures }).answered record .done 0 [])))

/-! ## Tables of the spec -/

/-- What a final verdict does to a station record (R22, R23, R24): a valid answer makes the station PRESENT and flips the
toggle, a VALID_HOLD ends a quarantine and sets the hold of its quanta, a failure counts and quarantines at the failure limit,
a STALE verdict below the limit makes it UNKNOWN, and a failed attempt to a QUARANTINED station changes nothing. -/
def Obligations.StationVerdicts : Prop :=
  ∀ (x : StationRec) (cycle : Cycle) (data : List Byte) (b : Byte),
    let failures := min (x.failures + 1) 15
    let answered : StationRec := { x with presence := .present, toggle := !x.toggle, failures := 0 }
    let failed (p : Presence) : StationRec := if x.failLimit ≤ failures
      then { x with presence := .quarantined, hold := none, failures := failures }
      else { x with presence := p, failures := failures }
    x.verdict cycle (.validAck data) = answered ∧ x.verdict cycle (.validNak b) = answered ∧
    (x.verdict cycle (.validHold b)).failures = 0 ∧ (x.verdict cycle (.validHold b)).toggle = x.toggle ∧
    (x.verdict cycle (.validHold b)).presence = (if x.presence = .quarantined then .unknown else x.presence) ∧
    (b = 0 → (x.verdict cycle (.validHold b)).hold = x.hold) ∧
    (b ≠ 0 → (x.verdict cycle (.validHold b)).hold = some (BitVec.ofNat 32 (cycle.toNat + b.toNat))) ∧
    (x.presence = .quarantined → x.verdict cycle .none = x ∧ x.verdict cycle .garbled = x ∧ x.verdict cycle .stale = x) ∧
    (x.presence ≠ .quarantined → x.verdict cycle .none = failed x.presence ∧
      x.verdict cycle .garbled = failed x.presence ∧ x.verdict cycle .stale = failed .unknown)

/-- What a final verdict does to the head (R97 to R101): the first row of R97 that applies gives the final status, with the
data of an ACK or the reason of a NAK, which is assigned to the head; with none the head is PENDING_RETRY; a STOPPING ring
is then judged (R81). A final status assigned to a head that holds its reservation makes it COMPLETING, leaves a selection
that names it empty, sets the station of an unsuccessful transaction that has had a command on the line UNKNOWN unless it is
QUARANTINED (R25, R110), and hands the TRANSACTION entry of R109 to the completion ring, which queues it while ACTIVE and
discards it, counted dropped, with a done report while FAULTED (R77, R141); that a FAULTED ring goes on discarding so while the
part is HALTED is the model's reading (log entry 10); without the reservation the status waits in the
head. The presence after of a head whose station has no record is NONE (for a FLUSHED record to station 63 the model's
choice, log entry 26). -/
def Obligations.HeadVerdicts : Prop :=
  (∀ (h : Head) (v : Verdict) (quarantined lineFault passed : Bool) (retry hold : Nat),
    h.retryLimit = some retry → h.holdLimit = some hold →
    let after := h.afterVerdict v
    let fate := headFate after v quarantined lineFault passed
    let retries := after.attempts ≠ retry + 1 ∧ quarantined = false
    (lineFault = true → fate = some (.lineFault, 0, [])) ∧
    (lineFault = false →
      (∀ data, v = .validAck data → fate = some (.ok, 0, data) ∧ after = h) ∧
      (∀ reason, v = .validNak reason → fate = some (.naked, reason, []) ∧ after = h) ∧
      (∀ quanta, v = .validHold quanta →
        after = { h with attempts := h.attempts - 1, holds := h.holds + 1 } ∧
        fate = if hold < h.holds + 1 then some (.heldOut, 0, []) else if passed then some (.expired, 0, []) else none) ∧
      (v = .none → after = { h with lastFailure := some .none } ∧
        (¬ retries → fate = some (.timeout, 0, [])) ∧
        (retries → fate = if passed then some (.expired, 0, []) else none)) ∧
      (v = .garbled ∨ v = .stale → after = { h with lastFailure := some .garbled } ∧
        (¬ retries → fate = some (.garbled, 0, [])) ∧
        (retries → fate = if passed then some (.expired, 0, []) else none)))) ∧
  (∀ (d : Dev) (r : RingId) (view : HeadView) (v : Verdict) (quarantined lineFault : Bool), d.headOf r = some view →
    let x := d.ring r
    let t := view.staged.record
    let chan := d.chan view.binding.channel
    let h := view.head.afterVerdict v
    let fate := headFate h v quarantined lineFault (t.deadlineFlag && Cycle.before t.deadline chan.cycle)
    let waiting := d.setRing r { x with head := some { h with state := .pendingRetry } }
    (fate = none → d.headVerdict r v quarantined lineFault = waiting.judgeStopping r) ∧
    (fate = none → x.state ≠ .stopping → d.headVerdict r v quarantined lineFault = waiting) ∧
    (∀ status reason data, fate = some (status, reason, data) →
      let at_ := view.head.window.getD (chan.cycle, d.windowIndex view.binding.channel)
      d.headVerdict r v quarantined lineFault = ((d.setRing r { x with head := some h }).assignFinal r {
        status := status, reason := reason, data := data, cycle := at_.1, window := at_.2 }).judgeStopping r)) ∧
  (∀ (d : Dev) (r : RingId) (v : HeadView) (f : Final), d.headOf r = some v →
    let x := d.ring r
    let b := v.binding
    let t := v.staged.record
    let chan := d.chan b.channel
    let ring := d.cring b.cring
    let completing := d.setRing r { x with head := some { v.head with state := .completing, final := some f } }
    let left := completing.setChan b.channel { chan with selection := match chan.selection with
      | some (.transaction k slot) => if k = r then some .left else some (.transaction k slot)
      | other => other }
    let ended (st : StationId) : StationRec :=
      let y := d.station b.channel st
      if 1 ≤ v.head.attempts + v.head.holds ∧ f.status ∉ [.ok, .naked, .invalid] ∧ y.presence ≠ .quarantined
        then { y with presence := .unknown } else y
    let reported := match v.station with
      | some st => left.setStation b.channel st (ended st)
      | none => left
    let entry : Entry := {
      kind := .transaction, source := r.val, tag := t.tag, status := f.status.code
      detail := BitVec.ofNat 32 (match f.status with
        | .naked => f.reason.toNat
        | .invalid => match v.staged.validity with
          | .invalid code => code
          | .valid => 0
        | .heldOut | .quarantined | .expired | .aborted | .lineFault | .flushed => match v.head.lastFailure with
          | none => 0
          | some .none => 1
          | some .garbled => 2
        | .ok | .timeout | .garbled => 0)
      attempts := v.head.attempts, holds := v.head.holds, station := t.station
      presence := match v.station with
        | some st => if f.status = .invalid then 0 else (ended st).presence.code
        | none => 0
      cycle := f.cycle, window := f.window
      length := if f.status = .ok then f.data.length else 0
      payload := if f.status = .ok then f.data else [] }
    (v.head.reservation ≠ .held →
      d.assignFinal r f = d.setRing r { x with head := some { v.head with final := some f } }) ∧
    (v.head.reservation = .held → ring.state = .active → d.assignFinal r f =
      reported.setCring b.cring { ring with
        slots := ring.slots.post { entry := entry, source := .transaction r } d.halted }) ∧
    (v.head.reservation = .held → ring.state = .faulted → d.assignFinal r f =
      ((reported.setCring b.cring { ring with
        dropped := min (ring.dropped + 1) (2 ^ 32 - 1)
        slots := { ring.slots with reservations := ring.slots.reservations - 1 } }).giveRoom b.cring).doneReport r))

/-- The needed time of R17, exact, in units of 125 ns, and its largest value under the ranges the spec allows: 942 µs. -/
def Obligations.NeededTimeIsExact : Prop :=
  ∀ (c : Channel) (x : TransRecord) (w : Nat),
    let bit := c.rate.bit
    let out := if x.op = .read then 0 else x.length
    let back := if x.op = .write then 0 else x.length
    neededTime c x (some w) = c.gap * bit + (64 + 8 * out) * bit + 8 * w + (48 + 8 * max back 1) * bit ∧
    neededTime c x none = c.gap * bit + (64 + 8 * out) * bit ∧
    (c.gap ≤ 63 → x.length ≤ 32 → w ≤ 255 → neededTime c x (some w) ≤ 8 * 942)

/-- The end of an activity (R66): at or before its window's end it is no overrun; after it OVERRUNS advances by one and
WINDOWS_LOST by the later windows that ended before it, both saturating, and no other counter changes. That a later window
which ends exactly with the activity is not counted is the model's reading (log entry 7): two sentences of R66 disagree on
it. -/
def Obligations.OverrunAccounted : Prop :=
  ∀ (c : Channel) (a : Activity) (m : Moment), c.activity = some a →
    (m ≤ a.ownEnd → c.account m = { c with activity := none }) ∧
    (a.ownEnd < m → c.account m = { c with
      activity := none
      counters := { c.counters with
        overruns := min (c.counters.overruns + 1) (2 ^ 32 - 1)
        windowsLost := min (c.counters.windowsLost + (a.crossed.filter fun e => e < m).length) (2 ^ 32 - 1) } })

/-- A candidate of the arbitration: an eligible head, its reservation held, VALID, STAGED or PENDING_RETRY and without a
final status, of an ACTIVE or FAULTED ring bound to the channel, whose class the TRANSACT window admits, whose station has
no hold and is not QUARANTINED unless the record carries PROBE, whose deadline has not passed, and whose needed time is not
greater than the time left (R87, R91, R92). The arbitration's choice (R93): a selected ring is a candidate, no candidate has
a higher class, and among the candidates of its class it comes first after the last-granted ring, counting upward and round
from TR7 to TR0; none is selected only when there is no candidate. An occasion (R37, R90): an IDLE channel in a TRANSACT window,
the part not HALTED, has the deadlines of its heads checked, then passes to QUIET_WAIT with the selected ring and the slot of its
head as its selection, or stays IDLE with none; any other occasion does nothing. -/
def Obligations.ArbitrationPicks : Prop :=
  ∀ (d : Dev) (ch : ChanId) (w : WindowRec),
    let steps (r : RingId) : Nat := (r.val + 7 - (d.chan ch).lastGranted.val) % 8
    (∀ r, d.candidate ch w r = true ↔ ∃ v, d.headOf r = some v ∧
      let t := v.staged.record
      let record := v.station.map (d.station ch)
      ((d.ring r).state = .active ∨ (d.ring r).state = .faulted) ∧ v.head.reservation = .held ∧
      v.staged.validity = .valid ∧ (v.head.state = .staged ∨ v.head.state = .pendingRetry) ∧ v.head.final = none ∧
      v.binding.channel = ch ∧ w.kind = .transact ∧ w.classes.getLsbD v.binding.cls.val = true ∧
      (∀ x, record = some x → x.hold = none ∧ (x.presence = .quarantined → t.probe = true)) ∧
      ¬ (t.deadlineFlag = true ∧ Cycle.before t.deadline (d.chan ch).cycle = true) ∧
      d.now + neededTime (d.chan ch) t (record.map StationRec.respWindow) ≤ w.ends) ∧
    (d.select ch w = none ↔ ∀ r, d.candidate ch w r = false) ∧
    (∀ r, d.select ch w = some r → d.candidate ch w r = true ∧
      ∀ k, d.candidate ch w k = true → d.classOf k < d.classOf r ∨ (d.classOf k = d.classOf r ∧ steps r ≤ steps k)) ∧
    ((d.chan ch).state ≠ .idle ∨ (d.chan ch).window = none ∨ d.port.part = .halted → d.arbitrate ch = d) ∧
    ((d.chan ch).window = some w →
      (w.kind ≠ .transact → d.arbitrate ch = d) ∧
      ((d.chan ch).state = .idle → w.kind = .transact → d.port.part ≠ .halted →
        let checked := d.checkDeadlines ch
        let due (r : RingId) : Prop := ∃ v, d.headOf r = some v ∧ v.binding.channel = ch ∧
          (d.ring r).state ∈ [.active, .stopping, .faulted] ∧ v.head.waiting = true ∧
          v.staged.record.deadlineFlag = true ∧ Cycle.before v.staged.record.deadline (d.chan ch).cycle = true
        ((∀ r, ¬ due r) → checked = d) ∧
        (checked.select ch w = none → d.arbitrate ch = checked) ∧
        (∀ r v, checked.select ch w = some r → checked.headOf r = some v → d.arbitrate ch =
          checked.setChan ch { checked.chan ch with
            state := .quietWait, selection := some (.transaction r v.staged.slot), since := d.now })))

/-! ## Invariants and rules of the whole part -/

/-- The reset state has every invariant stated below. -/
def Obligations.ResetKeepsTheInvariants : Prop :=
  Memory.wf State.reset.mem ∧ State.reset.dev.HoldsSound ∧ State.reset.dev.StagingBounded ∧
  State.reset.dev.engine.Bounded ∧ State.reset.dev.engine.EventsDistinct ∧ State.reset.dev.port.StartEnded

/-- Every step keeps the memory image in its canonical form, and no step but the end of an entry write or of a status area
write changes it (R166, R171). -/
def Obligations.MemoryStaysCanonical : Prop :=
  ∀ s t : State, step s = .next t →
    (Memory.wf s.mem → Memory.wf t.mem) ∧
    ((∀ m ring rest, s.pending ≠ .entryWriteEnd m ring :: rest) →
      (∀ m f rest, s.pending ≠ .statusWriteEnd m f :: rest) → t.mem = s.mem)

/-- Every step keeps this: a station that is held is not QUARANTINED (R24, R26, R27, R29, R30). -/
def Obligations.HeldStationsAreNotQuarantined : Prop :=
  ∀ s t : State, s.dev.HoldsSound → step s = .next t → t.dev.HoldsSound

/-- Every step keeps this: no ring stages more than 4 records, the read in flight counted with them (R68, R71, R72). -/
def Obligations.StagingStaysBounded : Prop :=
  ∀ s t : State, s.dev.StagingBounded → step s = .next t → t.dev.StagingBounded

/-- Every step keeps this: at most 8 commands are parked, one place being kept for the record on its way while the engine is
not IDLE; and no event is pending twice (R143, R148, R152). -/
def Obligations.EngineKeepsItsBounds : Prop :=
  ∀ s t : State, s.dev.engine.Bounded → s.dev.engine.EventsDistinct → step s = .next t →
    t.dev.engine.Bounded ∧ t.dev.engine.EventsDistinct

/-- A channel enters SENDING from QUIET_WAIT alone, whatever the command (R35). -/
def Obligations.SendingFollowsQuietWait : Prop :=
  ∀ (s t : State) (ch : ChanId), step s = .next t → (t.dev.chan ch).state = .sending →
    (s.dev.chan ch).state = .sending ∨ (s.dev.chan ch).state = .quietWait

/-- HALTED and STUCK last: a part that is HALTED stays so, with its cause, until a command that can reset it (R165, R170), and
its start has ended; a STUCK channel stays so until such a command or a CHANNEL_RESET (R43). An OFF channel's cycle counter
stands still until such a command or a CHANNEL_ENABLE (R52). -/
def Obligations.HaltedStuckAndOffLast : Prop :=
  ∀ (c : Instr) (s t : State), exec c s = .next t → c.mayReset = false →
    (s.dev.port.StartEnded → t.dev.port.StartEnded) ∧
    (s.dev.port.part = .halted → s.dev.port.StartEnded →
      t.dev.port.part = .halted ∧ t.dev.port.haltCause = s.dev.port.haltCause) ∧
    (∀ ch, (s.dev.chan ch).state = .stuck → (∀ m, c ≠ .channelReset m) → (t.dev.chan ch).state = .stuck) ∧
    (∀ ch, (s.dev.chan ch).state = .off → (∀ m, c ≠ .channelEnable m) → (t.dev.chan ch).cycle = (s.dev.chan ch).cycle)

end
end

