-- ==== Sys2Proof/Laws/State.lean ====
section
/-! SUPPORT. The fields of the part and of the state under each update: one lemma per field per update. -/

namespace Sys2Proof.Machine

/-! ## `setChan` -/

@[simp] theorem Dev.now_setChan (d : Dev) (ch : ChanId) (c : Channel) : (d.setChan ch c).now = d.now := rfl
@[simp] theorem Dev.port_setChan (d : Dev) (ch : ChanId) (c : Channel) : (d.setChan ch c).port = d.port := rfl
@[simp] theorem Dev.engine_setChan (d : Dev) (ch : ChanId) (c : Channel) : (d.setChan ch c).engine = d.engine := rfl
@[simp] theorem Dev.rings_setChan (d : Dev) (ch : ChanId) (c : Channel) : (d.setChan ch c).rings = d.rings := rfl
@[simp] theorem Dev.crings_setChan (d : Dev) (ch : ChanId) (c : Channel) : (d.setChan ch c).crings = d.crings := rfl
@[simp] theorem Dev.ccr_setChan (d : Dev) (ch : ChanId) (c : Channel) : (d.setChan ch c).ccr = d.ccr := rfl
@[simp] theorem Dev.grants_setChan (d : Dev) (ch : ChanId) (c : Channel) : (d.setChan ch c).grants = d.grants := rfl
@[simp] theorem Dev.stations_setChan (d : Dev) (ch : ChanId) (c : Channel) : (d.setChan ch c).stations = d.stations := rfl
@[simp] theorem Dev.alert_setChan (d : Dev) (ch : ChanId) (c : Channel) : (d.setChan ch c).alert = d.alert := rfl

/-! ## `setRing` -/

@[simp] theorem Dev.now_setRing (d : Dev) (r : RingId) (x : TransRing) : (d.setRing r x).now = d.now := rfl
@[simp] theorem Dev.port_setRing (d : Dev) (r : RingId) (x : TransRing) : (d.setRing r x).port = d.port := rfl
@[simp] theorem Dev.engine_setRing (d : Dev) (r : RingId) (x : TransRing) : (d.setRing r x).engine = d.engine := rfl
@[simp] theorem Dev.crings_setRing (d : Dev) (r : RingId) (x : TransRing) : (d.setRing r x).crings = d.crings := rfl
@[simp] theorem Dev.ccr_setRing (d : Dev) (r : RingId) (x : TransRing) : (d.setRing r x).ccr = d.ccr := rfl
@[simp] theorem Dev.grants_setRing (d : Dev) (r : RingId) (x : TransRing) : (d.setRing r x).grants = d.grants := rfl
@[simp] theorem Dev.channels_setRing (d : Dev) (r : RingId) (x : TransRing) : (d.setRing r x).channels = d.channels := rfl
@[simp] theorem Dev.stations_setRing (d : Dev) (r : RingId) (x : TransRing) : (d.setRing r x).stations = d.stations := rfl
@[simp] theorem Dev.alert_setRing (d : Dev) (r : RingId) (x : TransRing) : (d.setRing r x).alert = d.alert := rfl

/-! ## `setCring` -/

@[simp] theorem Dev.now_setCring (d : Dev) (c : CrId) (x : Cring) : (d.setCring c x).now = d.now := rfl
@[simp] theorem Dev.port_setCring (d : Dev) (c : CrId) (x : Cring) : (d.setCring c x).port = d.port := rfl
@[simp] theorem Dev.engine_setCring (d : Dev) (c : CrId) (x : Cring) : (d.setCring c x).engine = d.engine := rfl
@[simp] theorem Dev.rings_setCring (d : Dev) (c : CrId) (x : Cring) : (d.setCring c x).rings = d.rings := rfl
@[simp] theorem Dev.ccr_setCring (d : Dev) (c : CrId) (x : Cring) : (d.setCring c x).ccr = d.ccr := rfl
@[simp] theorem Dev.grants_setCring (d : Dev) (c : CrId) (x : Cring) : (d.setCring c x).grants = d.grants := rfl
@[simp] theorem Dev.channels_setCring (d : Dev) (c : CrId) (x : Cring) : (d.setCring c x).channels = d.channels := rfl
@[simp] theorem Dev.stations_setCring (d : Dev) (c : CrId) (x : Cring) : (d.setCring c x).stations = d.stations := rfl
@[simp] theorem Dev.alert_setCring (d : Dev) (c : CrId) (x : Cring) : (d.setCring c x).alert = d.alert := rfl

/-! ## `setStation` -/

@[simp] theorem Dev.now_setStation (d : Dev) (ch : ChanId) (st : StationId) (x : StationRec) : (d.setStation ch st x).now = d.now := rfl
@[simp] theorem Dev.port_setStation (d : Dev) (ch : ChanId) (st : StationId) (x : StationRec) : (d.setStation ch st x).port = d.port := rfl
@[simp] theorem Dev.engine_setStation (d : Dev) (ch : ChanId) (st : StationId) (x : StationRec) : (d.setStation ch st x).engine = d.engine := rfl
@[simp] theorem Dev.rings_setStation (d : Dev) (ch : ChanId) (st : StationId) (x : StationRec) : (d.setStation ch st x).rings = d.rings := rfl
@[simp] theorem Dev.crings_setStation (d : Dev) (ch : ChanId) (st : StationId) (x : StationRec) : (d.setStation ch st x).crings = d.crings := rfl
@[simp] theorem Dev.ccr_setStation (d : Dev) (ch : ChanId) (st : StationId) (x : StationRec) : (d.setStation ch st x).ccr = d.ccr := rfl
@[simp] theorem Dev.grants_setStation (d : Dev) (ch : ChanId) (st : StationId) (x : StationRec) : (d.setStation ch st x).grants = d.grants := rfl
@[simp] theorem Dev.channels_setStation (d : Dev) (ch : ChanId) (st : StationId) (x : StationRec) : (d.setStation ch st x).channels = d.channels := rfl
@[simp] theorem Dev.alert_setStation (d : Dev) (ch : ChanId) (st : StationId) (x : StationRec) : (d.setStation ch st x).alert = d.alert := rfl

/-! ## `setEngine` -/

@[simp] theorem Dev.now_setEngine (d : Dev) (e : Engine) : (d.setEngine e).now = d.now := rfl
@[simp] theorem Dev.port_setEngine (d : Dev) (e : Engine) : (d.setEngine e).port = d.port := rfl
@[simp] theorem Dev.engine_setEngine (d : Dev) (e : Engine) : (d.setEngine e).engine = e := rfl
@[simp] theorem Dev.rings_setEngine (d : Dev) (e : Engine) : (d.setEngine e).rings = d.rings := rfl
@[simp] theorem Dev.crings_setEngine (d : Dev) (e : Engine) : (d.setEngine e).crings = d.crings := rfl
@[simp] theorem Dev.ccr_setEngine (d : Dev) (e : Engine) : (d.setEngine e).ccr = d.ccr := rfl
@[simp] theorem Dev.grants_setEngine (d : Dev) (e : Engine) : (d.setEngine e).grants = d.grants := rfl
@[simp] theorem Dev.channels_setEngine (d : Dev) (e : Engine) : (d.setEngine e).channels = d.channels := rfl
@[simp] theorem Dev.stations_setEngine (d : Dev) (e : Engine) : (d.setEngine e).stations = d.stations := rfl
@[simp] theorem Dev.alert_setEngine (d : Dev) (e : Engine) : (d.setEngine e).alert = d.alert := rfl

/-! ## `setCcr` -/

@[simp] theorem Dev.now_setCcr (d : Dev) (c : Ccr) : (d.setCcr c).now = d.now := rfl
@[simp] theorem Dev.port_setCcr (d : Dev) (c : Ccr) : (d.setCcr c).port = d.port := rfl
@[simp] theorem Dev.engine_setCcr (d : Dev) (c : Ccr) : (d.setCcr c).engine = d.engine := rfl
@[simp] theorem Dev.rings_setCcr (d : Dev) (c : Ccr) : (d.setCcr c).rings = d.rings := rfl
@[simp] theorem Dev.crings_setCcr (d : Dev) (c : Ccr) : (d.setCcr c).crings = d.crings := rfl
@[simp] theorem Dev.ccr_setCcr (d : Dev) (c : Ccr) : (d.setCcr c).ccr = c := rfl
@[simp] theorem Dev.grants_setCcr (d : Dev) (c : Ccr) : (d.setCcr c).grants = d.grants := rfl
@[simp] theorem Dev.channels_setCcr (d : Dev) (c : Ccr) : (d.setCcr c).channels = d.channels := rfl
@[simp] theorem Dev.stations_setCcr (d : Dev) (c : Ccr) : (d.setCcr c).stations = d.stations := rfl
@[simp] theorem Dev.alert_setCcr (d : Dev) (c : Ccr) : (d.setCcr c).alert = d.alert := rfl

/-! ## `setPort` -/

@[simp] theorem Dev.now_setPort (d : Dev) (p : HostPort) : (d.setPort p).now = d.now := rfl
@[simp] theorem Dev.port_setPort (d : Dev) (p : HostPort) : (d.setPort p).port = p := rfl
@[simp] theorem Dev.engine_setPort (d : Dev) (p : HostPort) : (d.setPort p).engine = d.engine := rfl
@[simp] theorem Dev.rings_setPort (d : Dev) (p : HostPort) : (d.setPort p).rings = d.rings := rfl
@[simp] theorem Dev.crings_setPort (d : Dev) (p : HostPort) : (d.setPort p).crings = d.crings := rfl
@[simp] theorem Dev.ccr_setPort (d : Dev) (p : HostPort) : (d.setPort p).ccr = d.ccr := rfl
@[simp] theorem Dev.grants_setPort (d : Dev) (p : HostPort) : (d.setPort p).grants = d.grants := rfl
@[simp] theorem Dev.channels_setPort (d : Dev) (p : HostPort) : (d.setPort p).channels = d.channels := rfl
@[simp] theorem Dev.stations_setPort (d : Dev) (p : HostPort) : (d.setPort p).stations = d.stations := rfl
@[simp] theorem Dev.alert_setPort (d : Dev) (p : HostPort) : (d.setPort p).alert = d.alert := rfl

/-! ## `setAlert` -/

@[simp] theorem Dev.now_setAlert (d : Dev) (u : AlertUnit) : (d.setAlert u).now = d.now := rfl
@[simp] theorem Dev.port_setAlert (d : Dev) (u : AlertUnit) : (d.setAlert u).port = d.port := rfl
@[simp] theorem Dev.engine_setAlert (d : Dev) (u : AlertUnit) : (d.setAlert u).engine = d.engine := rfl
@[simp] theorem Dev.rings_setAlert (d : Dev) (u : AlertUnit) : (d.setAlert u).rings = d.rings := rfl
@[simp] theorem Dev.crings_setAlert (d : Dev) (u : AlertUnit) : (d.setAlert u).crings = d.crings := rfl
@[simp] theorem Dev.ccr_setAlert (d : Dev) (u : AlertUnit) : (d.setAlert u).ccr = d.ccr := rfl
@[simp] theorem Dev.grants_setAlert (d : Dev) (u : AlertUnit) : (d.setAlert u).grants = d.grants := rfl
@[simp] theorem Dev.channels_setAlert (d : Dev) (u : AlertUnit) : (d.setAlert u).channels = d.channels := rfl
@[simp] theorem Dev.stations_setAlert (d : Dev) (u : AlertUnit) : (d.setAlert u).stations = d.stations := rfl
@[simp] theorem Dev.alert_setAlert (d : Dev) (u : AlertUnit) : (d.setAlert u).alert = u := rfl

/-! ## `tick` -/

@[simp] theorem Dev.now_tick (d : Dev) (t : Moment) : (d.tick t).now = max d.now t := rfl
@[simp] theorem Dev.port_tick (d : Dev) (t : Moment) : (d.tick t).port = d.port := rfl
@[simp] theorem Dev.engine_tick (d : Dev) (t : Moment) : (d.tick t).engine = d.engine := rfl
@[simp] theorem Dev.rings_tick (d : Dev) (t : Moment) : (d.tick t).rings = d.rings := rfl
@[simp] theorem Dev.crings_tick (d : Dev) (t : Moment) : (d.tick t).crings = d.crings := rfl
@[simp] theorem Dev.ccr_tick (d : Dev) (t : Moment) : (d.tick t).ccr = d.ccr := rfl
@[simp] theorem Dev.grants_tick (d : Dev) (t : Moment) : (d.tick t).grants = d.grants := rfl
@[simp] theorem Dev.channels_tick (d : Dev) (t : Moment) : (d.tick t).channels = d.channels := rfl
@[simp] theorem Dev.stations_tick (d : Dev) (t : Moment) : (d.tick t).stations = d.stations := rfl
@[simp] theorem Dev.alert_tick (d : Dev) (t : Moment) : (d.tick t).alert = d.alert := rfl

/-! ## Accessors over the updates of other parts -/

@[simp] theorem Dev.chan_setRing (d : Dev) (r : RingId) (x : TransRing) (k : ChanId) : (d.setRing r x).chan k = d.chan k := rfl
@[simp] theorem Dev.chan_setCring (d : Dev) (c : CrId) (x : Cring) (k : ChanId) : (d.setCring c x).chan k = d.chan k := rfl
@[simp] theorem Dev.chan_setStation (d : Dev) (ch : ChanId) (st : StationId) (x : StationRec) (k : ChanId) : (d.setStation ch st x).chan k = d.chan k := rfl
@[simp] theorem Dev.chan_setEngine (d : Dev) (e : Engine) (k : ChanId) : (d.setEngine e).chan k = d.chan k := rfl
@[simp] theorem Dev.chan_setCcr (d : Dev) (c : Ccr) (k : ChanId) : (d.setCcr c).chan k = d.chan k := rfl
@[simp] theorem Dev.chan_setPort (d : Dev) (p : HostPort) (k : ChanId) : (d.setPort p).chan k = d.chan k := rfl
@[simp] theorem Dev.chan_setAlert (d : Dev) (u : AlertUnit) (k : ChanId) : (d.setAlert u).chan k = d.chan k := rfl
@[simp] theorem Dev.chan_tick (d : Dev) (t : Moment) (k : ChanId) : (d.tick t).chan k = d.chan k := rfl
@[simp] theorem Dev.ring_setChan (d : Dev) (ch : ChanId) (c : Channel) (k : RingId) : (d.setChan ch c).ring k = d.ring k := rfl
@[simp] theorem Dev.ring_setCring (d : Dev) (c : CrId) (x : Cring) (k : RingId) : (d.setCring c x).ring k = d.ring k := rfl
@[simp] theorem Dev.ring_setStation (d : Dev) (ch : ChanId) (st : StationId) (x : StationRec) (k : RingId) : (d.setStation ch st x).ring k = d.ring k := rfl
@[simp] theorem Dev.ring_setEngine (d : Dev) (e : Engine) (k : RingId) : (d.setEngine e).ring k = d.ring k := rfl
@[simp] theorem Dev.ring_setCcr (d : Dev) (c : Ccr) (k : RingId) : (d.setCcr c).ring k = d.ring k := rfl
@[simp] theorem Dev.ring_setPort (d : Dev) (p : HostPort) (k : RingId) : (d.setPort p).ring k = d.ring k := rfl
@[simp] theorem Dev.ring_setAlert (d : Dev) (u : AlertUnit) (k : RingId) : (d.setAlert u).ring k = d.ring k := rfl
@[simp] theorem Dev.ring_tick (d : Dev) (t : Moment) (k : RingId) : (d.tick t).ring k = d.ring k := rfl
@[simp] theorem Dev.cring_setChan (d : Dev) (ch : ChanId) (c : Channel) (k : CrId) : (d.setChan ch c).cring k = d.cring k := rfl
@[simp] theorem Dev.cring_setRing (d : Dev) (r : RingId) (x : TransRing) (k : CrId) : (d.setRing r x).cring k = d.cring k := rfl
@[simp] theorem Dev.cring_setStation (d : Dev) (ch : ChanId) (st : StationId) (x : StationRec) (k : CrId) : (d.setStation ch st x).cring k = d.cring k := rfl
@[simp] theorem Dev.cring_setEngine (d : Dev) (e : Engine) (k : CrId) : (d.setEngine e).cring k = d.cring k := rfl
@[simp] theorem Dev.cring_setCcr (d : Dev) (c : Ccr) (k : CrId) : (d.setCcr c).cring k = d.cring k := rfl
@[simp] theorem Dev.cring_setPort (d : Dev) (p : HostPort) (k : CrId) : (d.setPort p).cring k = d.cring k := rfl
@[simp] theorem Dev.cring_setAlert (d : Dev) (u : AlertUnit) (k : CrId) : (d.setAlert u).cring k = d.cring k := rfl
@[simp] theorem Dev.cring_tick (d : Dev) (t : Moment) (k : CrId) : (d.tick t).cring k = d.cring k := rfl
@[simp] theorem Dev.station_setChan (d : Dev) (ch : ChanId) (c : Channel) (k : ChanId) (j : StationId) :
    (d.setChan ch c).station k j = d.station k j := rfl
@[simp] theorem Dev.station_setRing (d : Dev) (r : RingId) (x : TransRing) (k : ChanId) (j : StationId) :
    (d.setRing r x).station k j = d.station k j := rfl
@[simp] theorem Dev.station_setCring (d : Dev) (c : CrId) (x : Cring) (k : ChanId) (j : StationId) :
    (d.setCring c x).station k j = d.station k j := rfl
@[simp] theorem Dev.station_setEngine (d : Dev) (e : Engine) (k : ChanId) (j : StationId) :
    (d.setEngine e).station k j = d.station k j := rfl
@[simp] theorem Dev.station_setCcr (d : Dev) (c : Ccr) (k : ChanId) (j : StationId) :
    (d.setCcr c).station k j = d.station k j := rfl
@[simp] theorem Dev.station_setPort (d : Dev) (p : HostPort) (k : ChanId) (j : StationId) :
    (d.setPort p).station k j = d.station k j := rfl
@[simp] theorem Dev.station_setAlert (d : Dev) (u : AlertUnit) (k : ChanId) (j : StationId) :
    (d.setAlert u).station k j = d.station k j := rfl
@[simp] theorem Dev.station_tick (d : Dev) (t : Moment) (k : ChanId) (j : StationId) :
    (d.tick t).station k j = d.station k j := rfl

/-! ## Accessors over their own updates -/

@[simp] theorem Dev.chan_setChan_self (d : Dev) (ch : ChanId) (c : Channel) : (d.setChan ch c).chan ch = c := by
  simp [Dev.chan, Dev.setChan]

theorem Dev.chan_setChan_ne (d : Dev) {ch k : ChanId} (c : Channel) (h : k ≠ ch) :
    (d.setChan ch c).chan k = d.chan k := by
  simp [Dev.chan, Dev.setChan, Vector.getElem_set_ne, Fin.val_ne_of_ne (Ne.symm h)]

@[simp] theorem Dev.ring_setRing_self (d : Dev) (r : RingId) (x : TransRing) : (d.setRing r x).ring r = x := by
  simp [Dev.ring, Dev.setRing]

theorem Dev.ring_setRing_ne (d : Dev) {r k : RingId} (x : TransRing) (h : k ≠ r) :
    (d.setRing r x).ring k = d.ring k := by
  simp [Dev.ring, Dev.setRing, Vector.getElem_set_ne, Fin.val_ne_of_ne (Ne.symm h)]

@[simp] theorem Dev.cring_setCring_self (d : Dev) (c : CrId) (x : Cring) : (d.setCring c x).cring c = x := by
  simp [Dev.cring, Dev.setCring]

theorem Dev.cring_setCring_ne (d : Dev) {c k : CrId} (x : Cring) (h : k ≠ c) :
    (d.setCring c x).cring k = d.cring k := by
  simp [Dev.cring, Dev.setCring, Vector.getElem_set_ne, Fin.val_ne_of_ne (Ne.symm h)]

@[simp] theorem Dev.station_setStation_self (d : Dev) (ch : ChanId) (st : StationId) (x : StationRec) :
    (d.setStation ch st x).station ch st = x := by
  simp [Dev.station, Dev.setStation]

theorem Dev.station_setStation_ne (d : Dev) {ch k : ChanId} {st j : StationId} (x : StationRec)
    (h : k ≠ ch ∨ j ≠ st) : (d.setStation ch st x).station k j = d.station k j := by
  by_cases hk : k = ch
  · subst hk
    have hj : j ≠ st := h.resolve_left (fun hn => hn rfl)
    simp [Dev.station, Dev.setStation, Vector.getElem_set_ne, Fin.val_ne_of_ne (Ne.symm hj)]
  · simp [Dev.station, Dev.setStation, Vector.getElem_set_ne, Fin.val_ne_of_ne (Ne.symm hk)]

/-! ## The state -/

@[simp] theorem State.onDev_pending (s : State) (f : Dev → Dev) : (s.onDev f).pending = s.pending := rfl
@[simp] theorem State.onDev_mem (s : State) (f : Dev → Dev) : (s.onDev f).mem = s.mem := rfl
@[simp] theorem State.onDev_dev (s : State) (f : Dev → Dev) : (s.onDev f).dev = f s.dev := rfl
@[simp] theorem State.front_dev (s : State) (c : Instr) : (s.front c).dev = s.dev := rfl
@[simp] theorem State.front_mem (s : State) (c : Instr) : (s.front c).mem = s.mem := rfl

/-! ## Facts read from the part -/

@[simp] theorem Dev.halted_tick (d : Dev) (t : Moment) : (d.tick t).halted = d.halted := rfl
@[simp] theorem Dev.resetting_tick (d : Dev) (t : Moment) : (d.tick t).resetting = d.resetting := rfl
@[simp] theorem Dev.running_tick (d : Dev) (t : Moment) : (d.tick t).running = d.running := rfl
@[simp] theorem Dev.acting_tick (d : Dev) (t : Moment) : (d.tick t).acting = d.acting := rfl
@[simp] theorem Dev.fieldQueue_tick (d : Dev) (t : Moment) (f : FieldId) : (d.tick t).fieldQueue f = d.fieldQueue f := rfl
@[simp] theorem Dev.hasParked_tick (d : Dev) (t : Moment) (p : Command → Bool) :
    (d.tick t).hasParked p = d.hasParked p := rfl

end Sys2Proof.Machine
end

