-- ==== Sys2Proof/Laws/Ops.lean ====
section
/-! SUPPORT. What each shared operation leaves unchanged: one lemma per operation, which later proofs cite instead of
unfolding it. -/

set_option linter.unusedSimpArgs false
set_option linter.unnecessarySeqFocus false
set_option linter.unusedTactic false

namespace Sys2Proof.Machine

/-- The time, the part's own state and the alert unit are the same. -/
abbrev Same (d e : Dev) : Prop :=
  e.now = d.now ∧ e.alert = d.alert ∧ e.port.part = d.port.part ∧ e.port.haltCause = d.port.haltCause ∧
    e.port.enable = d.port.enable ∧ e.port.start = d.port.start

/-- The channels and the stations are the same. -/
abbrev SameLine (d e : Dev) : Prop := e.channels = d.channels ∧ e.stations = d.stations

/-- The transaction rings, the completion rings and the grants are the same. -/
abbrev SameRings (d e : Dev) : Prop := e.rings = d.rings ∧ e.crings = d.crings ∧ e.grants = d.grants

/-- The control engine and the CCR are the same. -/
abbrev SameControl (d e : Dev) : Prop := e.engine = d.engine ∧ e.ccr = d.ccr

/-- The control engine's phase, record in hand and indices are the same. -/
abbrev SamePhase (d e : Dev) : Prop :=
  e.engine.phase = d.engine.phase ∧ e.engine.inHand = d.engine.inHand ∧ e.engine.post = d.engine.post ∧
    e.engine.read = d.engine.read

/-- A fold of operations that each keep the part's own state and the engine's phase keeps them. -/
theorem foldl_same {α : Type} (f : Dev → α → Dev) (xs : List α)
    (h : ∀ d x, Same d (f d x) ∧ SamePhase d (f d x)) (d : Dev) :
    Same d (xs.foldl f d) ∧ SamePhase d (xs.foldl f d) := by
  induction xs generalizing d with
  | nil => simp [Same, SamePhase]
  | cons x xs ih =>
    obtain ⟨a, b⟩ := h d x
    obtain ⟨a', b'⟩ := ih (f d x)
    simp_all [Same, SamePhase]

@[simp] theorem Dev.setField_keeps (d : Dev) (f : FieldId) (q : FieldQueue) :
    Same d (d.setField f q) ∧ SameLine d (d.setField f q) ∧ SameRings d (d.setField f q) ∧
    SameControl d (d.setField f q) := by
  unfold Dev.setField
  try dsimp only
  (repeat' split) <;> simp [*, Same, SameLine, SameRings, SameControl, SamePhase]

/-- A request to publish changes the writer of the status area alone (R167). -/
@[simp] theorem Dev.publish_keeps (d : Dev) (f : FieldId) (v : Nat) (p : Purpose) :
    Same d (d.publish f v p) ∧ SameLine d (d.publish f v p) ∧ SameRings d (d.publish f v p) ∧
    SameControl d (d.publish f v p) := by
  unfold Dev.publish
  try dsimp only
  (repeat' split) <;> simp [*, Same, SameLine, SameRings, SameControl, SamePhase]

/-- A cause set changes INT_STATUS alone (R169). -/
@[simp] theorem Dev.setCause_keeps (d : Dev) (bit : Nat) :
    Same d (d.setCause bit) ∧ SameLine d (d.setCause bit) ∧ SameRings d (d.setCause bit) ∧
    SameControl d (d.setCause bit) := by
  unfold Dev.setCause
  try dsimp only
  (repeat' split) <;> simp [*, Same, SameLine, SameRings, SameControl, SamePhase]

@[simp] theorem Dev.modChan_keeps (d : Dev) (ch : ChanId) (f : Channel → Channel) :
    Same d (d.modChan ch f) ∧ SameRings d (d.modChan ch f) ∧ SameControl d (d.modChan ch f) ∧
    (d.modChan ch f).port = d.port ∧ (d.modChan ch f).stations = d.stations := by
  unfold Dev.modChan
  try dsimp only
  (repeat' split) <;> simp [*, Same, SameLine, SameRings, SameControl, SamePhase]

@[simp] theorem Dev.modRing_keeps (d : Dev) (r : RingId) (f : TransRing → TransRing) :
    Same d (d.modRing r f) ∧ SameLine d (d.modRing r f) ∧ SameControl d (d.modRing r f) ∧
    (d.modRing r f).port = d.port ∧ (d.modRing r f).crings = d.crings ∧ (d.modRing r f).grants = d.grants := by
  unfold Dev.modRing
  try dsimp only
  (repeat' split) <;> simp [*, Same, SameLine, SameRings, SameControl, SamePhase]

@[simp] theorem Dev.modHead_keeps (d : Dev) (r : RingId) (f : Head → Head) :
    Same d (d.modHead r f) ∧ SameLine d (d.modHead r f) ∧ SameControl d (d.modHead r f) ∧
    (d.modHead r f).port = d.port ∧ (d.modHead r f).crings = d.crings ∧ (d.modHead r f).grants = d.grants := by
  unfold Dev.modHead
  try dsimp only
  (repeat' split) <;> simp [*, Same, SameLine, SameRings, SameControl, SamePhase]

@[simp] theorem Dev.modCring_keeps (d : Dev) (c : CrId) (f : Cring → Cring) :
    Same d (d.modCring c f) ∧ SameLine d (d.modCring c f) ∧ SameControl d (d.modCring c f) ∧
    (d.modCring c f).port = d.port ∧ (d.modCring c f).rings = d.rings ∧ (d.modCring c f).grants = d.grants := by
  unfold Dev.modCring
  try dsimp only
  (repeat' split) <;> simp [*, Same, SameLine, SameRings, SameControl, SamePhase]

/-- An entry handed to the CCR changes the CCR alone (R142). -/
@[simp] theorem Dev.postCcr_keeps (d : Dev) (p : Posting) :
    Same d (d.postCcr p) ∧ SameLine d (d.postCcr p) ∧ SameRings d (d.postCcr p) ∧ (d.postCcr p).port = d.port ∧
    (d.postCcr p).engine = d.engine := by
  unfold Dev.postCcr
  try dsimp only
  (repeat' split) <;> simp [*, Same, SameLine, SameRings, SameControl, SamePhase]

/-- An entry handed to a completion ring changes that unit alone (R137). -/
@[simp] theorem Dev.postCring_keeps (d : Dev) (c : CrId) (p : Posting) :
    Same d (d.postCring c p) ∧ SameLine d (d.postCring c p) ∧ SameControl d (d.postCring c p) ∧
    (d.postCring c p).port = d.port ∧ (d.postCring c p).rings = d.rings ∧ (d.postCring c p).grants = d.grants := by
  unfold Dev.postCring
  try dsimp only
  (repeat' split) <;> simp [*, Same, SameLine, SameRings, SameControl, SamePhase]

/-- Grants change the completion rings and the grants on their way (R134). -/
@[simp] theorem Dev.grantWaiters_keeps (d : Dev) (c : CrId) (n : Nat) :
    Same d (d.grantWaiters c n) ∧ SameLine d (d.grantWaiters c n) ∧ SameControl d (d.grantWaiters c n) ∧
    (d.grantWaiters c n).port = d.port ∧ (d.grantWaiters c n).rings = d.rings := by
  unfold Dev.grantWaiters
  try dsimp only
  (repeat' split) <;> simp [*, Same, SameLine, SameRings, SameControl, SamePhase]

@[simp] theorem Dev.reportLost_keeps (d : Dev) (c : CrId) :
    Same d (d.reportLost c) ∧ SameLine d (d.reportLost c) ∧ SameControl d (d.reportLost c) ∧
    (d.reportLost c).port = d.port ∧ (d.reportLost c).rings = d.rings ∧ (d.reportLost c).grants = d.grants := by
  unfold Dev.reportLost
  try dsimp only
  (repeat' split) <;> simp [*, Same, SameLine, SameRings, SameControl, SamePhase]

/-- Room given out changes the completion rings and the grants on their way (R136). -/
@[simp] theorem Dev.giveRoom_keeps (d : Dev) (c : CrId) :
    Same d (d.giveRoom c) ∧ SameLine d (d.giveRoom c) ∧ SameControl d (d.giveRoom c) ∧
    (d.giveRoom c).port = d.port ∧ (d.giveRoom c).rings = d.rings := by
  unfold Dev.giveRoom
  try dsimp only
  (repeat' split) <;> simp [*, Same, SameLine, SameRings, SameControl, SamePhase]

/-- A request changes the completion rings and the grants on their way (R134). -/
@[simp] theorem Dev.requestReservation_keeps (d : Dev) (c : CrId) (r : RingId) :
    Same d (d.requestReservation c r) ∧ SameLine d (d.requestReservation c r) ∧
    SameControl d (d.requestReservation c r) ∧ (d.requestReservation c r).port = d.port ∧
    (d.requestReservation c r).rings = d.rings := by
  unfold Dev.requestReservation
  try dsimp only
  (repeat' split) <;> simp [*, Same, SameLine, SameRings, SameControl, SamePhase]

/-- A cancel changes the completion rings and the grants on their way (R135). -/
@[simp] theorem Dev.cancelReservation_keeps (d : Dev) (c : CrId) (r : RingId) :
    Same d (d.cancelReservation c r) ∧ SameLine d (d.cancelReservation c r) ∧
    SameControl d (d.cancelReservation c r) ∧ (d.cancelReservation c r).port = d.port ∧
    (d.cancelReservation c r).rings = d.rings := by
  unfold Dev.cancelReservation
  try dsimp only
  (repeat' split) <;> simp [*, Same, SameLine, SameRings, SameControl, SamePhase]

/-- An alert handed over changes the completion rings alone (R138). -/
@[simp] theorem Dev.postAlert_keeps (d : Dev) (c : CrId) (e : Entry) :
    Same d (d.postAlert c e) ∧ SameLine d (d.postAlert c e) ∧ SameControl d (d.postAlert c e) ∧
    (d.postAlert c e).port = d.port ∧ (d.postAlert c e).rings = d.rings ∧ (d.postAlert c e).grants = d.grants := by
  unfold Dev.postAlert
  try dsimp only
  (repeat' split) <;> simp [*, Same, SameLine, SameRings, SameControl, SamePhase]

/-- Events posted change the CCR and the event set (R144). -/
@[simp] theorem Dev.postEvents_keeps (d : Dev) (n : Nat) :
    Same d (d.postEvents n) ∧ SameLine d (d.postEvents n) ∧ SameRings d (d.postEvents n) ∧
    (d.postEvents n).port = d.port ∧ SamePhase d (d.postEvents n) := by
  induction n generalizing d with
  | zero => simp [Dev.postEvents, Same, SameLine, SameRings, SamePhase]
  | succ n ih => unfold Dev.postEvents; split <;> simp_all [Same, SameLine, SameRings, SamePhase]

@[simp] theorem Dev.drainEvents_keeps (d : Dev) :
    Same d (d.drainEvents) ∧ SameLine d (d.drainEvents) ∧ SameRings d (d.drainEvents) ∧
    (d.drainEvents).port = d.port ∧ SamePhase d (d.drainEvents) := by
  unfold Dev.drainEvents
  try dsimp only
  (repeat' split) <;> simp [*, Same, SameLine, SameRings, SameControl, SamePhase]

@[simp] theorem Dev.grantEngine_keeps (d : Dev) :
    Same d (d.grantEngine) ∧ SameLine d (d.grantEngine) ∧ SameRings d (d.grantEngine) ∧
    (d.grantEngine).port = d.port ∧ (d.grantEngine).engine = d.engine := by
  unfold Dev.grantEngine
  try dsimp only
  (repeat' split) <;> simp [*, Same, SameLine, SameRings, SameControl, SamePhase]

@[simp] theorem Dev.giveCcrRoom_keeps (d : Dev) :
    Same d (d.giveCcrRoom) ∧ SameLine d (d.giveCcrRoom) ∧ SameRings d (d.giveCcrRoom) ∧
    (d.giveCcrRoom).port = d.port ∧ SamePhase d (d.giveCcrRoom) := by
  unfold Dev.giveCcrRoom
  try dsimp only
  (repeat' split) <;> simp [*, Same, SameLine, SameRings, SameControl, SamePhase]

/-- The engine's request changes the CCR alone (R142). -/
@[simp] theorem Dev.requestCcr_keeps (d : Dev) :
    Same d (d.requestCcr) ∧ SameLine d (d.requestCcr) ∧ SameRings d (d.requestCcr) ∧
    (d.requestCcr).port = d.port ∧ (d.requestCcr).engine = d.engine := by
  unfold Dev.requestCcr
  try dsimp only
  (repeat' split) <;> simp [*, Same, SameLine, SameRings, SameControl, SamePhase]

/-- A fault entered changes the CCR and the event set (R143). -/
@[simp] theorem Dev.enterEvent_keeps (d : Dev) (k : EventKind) (o : Nat) :
    Same d (d.enterEvent k o) ∧ SameLine d (d.enterEvent k o) ∧ SameRings d (d.enterEvent k o) ∧
    (d.enterEvent k o).port = d.port ∧ SamePhase d (d.enterEvent k o) := by
  unfold Dev.enterEvent
  try dsimp only
  (repeat' split) <;> simp [*, Same, SameLine, SameRings, SameControl, SamePhase]

/-- An answer changes the engine and the CCR (R151). -/
@[simp] theorem Dev.completeInHand_keeps (d : Dev) (st : ControlStatus) (n : Nat) (p : List Byte) :
    Same d (d.completeInHand st n p) ∧ SameLine d (d.completeInHand st n p) ∧
    SameRings d (d.completeInHand st n p) ∧ (d.completeInHand st n p).port = d.port := by
  unfold Dev.completeInHand
  try dsimp only
  (repeat' split) <;> simp [*, Same, SameLine, SameRings, SameControl, SamePhase]

/-- Parking changes the engine alone (R151). -/
@[simp] theorem Dev.parkInHand_keeps (d : Dev) (n : ParkNote) :
    Same d (d.parkInHand n) ∧ SameLine d (d.parkInHand n) ∧ SameRings d (d.parkInHand n) ∧
    (d.parkInHand n).port = d.port ∧ (d.parkInHand n).ccr = d.ccr := by
  unfold Dev.parkInHand
  try dsimp only
  (repeat' split) <;> simp [*, Same, SameLine, SameRings, SameControl, SamePhase]

/-- The answer of a parked command changes the parked list and the CCR (R152). -/
@[simp] theorem Dev.completeParked_keeps (d : Dev) (p : Command → Bool) (st : ControlStatus) (n : Nat) :
    Same d (d.completeParked p st n) ∧ SameLine d (d.completeParked p st n) ∧
    SameRings d (d.completeParked p st n) ∧ (d.completeParked p st n).port = d.port ∧
    SamePhase d (d.completeParked p st n) := by
  unfold Dev.completeParked
  try dsimp only
  (repeat' split) <;> simp [*, Same, SameLine, SameRings, SameControl, SamePhase]

/-- Judging R148 changes the engine and the CCR. -/
@[simp] theorem Dev.judgeEngine_keeps (d : Dev) :
    Same d (d.judgeEngine) ∧ SameLine d (d.judgeEngine) ∧ SameRings d (d.judgeEngine) ∧
    (d.judgeEngine).port = d.port := by
  unfold Dev.judgeEngine
  try dsimp only
  (repeat' split) <;> simp [*, Same, SameLine, SameRings, SameControl, SamePhase]

/-- A request of a head changes the rings, the completion rings and the grants (R76). -/
@[simp] theorem Dev.askReservation_keeps (d : Dev) (r : RingId) :
    Same d (d.askReservation r) ∧ SameLine d (d.askReservation r) ∧ SameControl d (d.askReservation r) ∧
    (d.askReservation r).port = d.port := by
  unfold Dev.askReservation
  try dsimp only
  (repeat' split) <;> simp [*, Same, SameLine, SameRings, SameControl, SamePhase]

@[simp] theorem Dev.newHead_keeps (d : Dev) (r : RingId) :
    Same d (d.newHead r) ∧ SameLine d (d.newHead r) ∧ SameControl d (d.newHead r) ∧ (d.newHead r).port = d.port := by
  unfold Dev.newHead
  try dsimp only
  (repeat' split) <;> simp [*, Same, SameLine, SameRings, SameControl, SamePhase]

/-- A read issued changes the rings alone (R71). -/
@[simp] theorem Dev.judgeFetch_keeps (d : Dev) (r : RingId) :
    Same d (d.judgeFetch r) ∧ SameLine d (d.judgeFetch r) ∧ SameControl d (d.judgeFetch r) ∧
    (d.judgeFetch r).port = d.port ∧ (d.judgeFetch r).crings = d.crings ∧ (d.judgeFetch r).grants = d.grants := by
  unfold Dev.judgeFetch
  try dsimp only
  (repeat' split) <;> simp [*, Same, SameLine, SameRings, SameControl, SamePhase]

@[simp] theorem Dev.giveUp_keeps (d : Dev) (r : RingId) :
    Same d (d.giveUp r) ∧ SameLine d (d.giveUp r) ∧ SameControl d (d.giveUp r) ∧ (d.giveUp r).port = d.port := by
  unfold Dev.giveUp
  try dsimp only
  (repeat' split) <;> simp [*, Same, SameLine, SameRings, SameControl, SamePhase]

@[simp] theorem Dev.judgeStopping_keeps (d : Dev) (r : RingId) :
    Same d (d.judgeStopping r) ∧ SameLine d (d.judgeStopping r) ∧ (d.judgeStopping r).port = d.port ∧
    SamePhase d (d.judgeStopping r) := by
  unfold Dev.judgeStopping
  try dsimp only
  (repeat' split) <;> simp [*, Same, SameLine, SameRings, SameControl, SamePhase]

@[simp] theorem Dev.judgeFaulted_keeps (d : Dev) (r : RingId) :
    Same d (d.judgeFaulted r) ∧ SameLine d (d.judgeFaulted r) ∧ (d.judgeFaulted r).port = d.port ∧
    (d.judgeFaulted r).crings = d.crings ∧ (d.judgeFaulted r).grants = d.grants ∧ SamePhase d (d.judgeFaulted r) := by
  unfold Dev.judgeFaulted
  try dsimp only
  (repeat' split) <;> simp [*, Same, SameLine, SameRings, SameControl, SamePhase]

@[simp] theorem Dev.judgeFlush_keeps (d : Dev) (r : RingId) :
    Same d (d.judgeFlush r) ∧ SameLine d (d.judgeFlush r) ∧ SameControl d (d.judgeFlush r) ∧
    (d.judgeFlush r).crings = d.crings ∧ (d.judgeFlush r).grants = d.grants := by
  unfold Dev.judgeFlush
  try dsimp only
  (repeat' split) <;> simp [*, Same, SameLine, SameRings, SameControl, SamePhase]

/-- A done report changes neither channels nor stations (R77). -/
@[simp] theorem Dev.doneReport_keeps (d : Dev) (r : RingId) :
    Same d (d.doneReport r) ∧ SameLine d (d.doneReport r) ∧ SamePhase d (d.doneReport r) := by
  unfold Dev.doneReport
  try dsimp only
  (repeat' split) <;> simp [*, Same, SameLine, SameRings, SameControl, SamePhase]

@[simp] theorem Dev.handOver_keeps (d : Dev) (c : CrId) (r : RingId) (e : Entry) :
    Same d (d.handOver c r e) ∧ SameLine d (d.handOver c r e) ∧ SamePhase d (d.handOver c r e) := by
  unfold Dev.handOver
  try dsimp only
  (repeat' split) <;> simp [*, Same, SameLine, SameRings, SameControl, SamePhase]

@[simp] theorem Dev.endTransaction_keeps (d : Dev) (v : HeadView) (f : Final) :
    Same d (d.endTransaction v f) ∧ SameRings d (d.endTransaction v f) ∧ SameControl d (d.endTransaction v f) ∧
    (d.endTransaction v f).port = d.port ∧ (d.endTransaction v f).channels = d.channels := by
  unfold Dev.endTransaction
  try dsimp only
  (repeat' split) <;> simp [*, Same, SameLine, SameRings, SameControl, SamePhase]

/-- A final status leaves the time, the part state and the alert unit (R77). -/
@[simp] theorem Dev.assignFinal_keeps (d : Dev) (r : RingId) (f : Final) :
    Same d (d.assignFinal r f) ∧ SamePhase d (d.assignFinal r f) := by
  unfold Dev.assignFinal
  try dsimp only
  (repeat' split) <;> simp [*, Same, SameLine, SameRings, SameControl, SamePhase]

@[simp] theorem Dev.checkDeadline_keeps (d : Dev) (r : RingId) :
    Same d (d.checkDeadline r) ∧ SamePhase d (d.checkDeadline r) := by
  unfold Dev.checkDeadline
  try dsimp only
  (repeat' split) <;> simp [*, Same, SameLine, SameRings, SameControl, SamePhase]

@[simp] theorem Dev.checkQuarantine_keeps (d : Dev) (r : RingId) :
    Same d (d.checkQuarantine r) ∧ SamePhase d (d.checkQuarantine r) := by
  unfold Dev.checkQuarantine
  try dsimp only
  (repeat' split) <;> simp [*, Same, SameLine, SameRings, SameControl, SamePhase]

@[simp] theorem Dev.checkDeadlines_keeps (d : Dev) (ch : ChanId) :
    Same d (d.checkDeadlines ch) ∧ SamePhase d (d.checkDeadlines ch) := by
  unfold Dev.checkDeadlines
  exact foldl_same _ _ (fun d x => by (repeat' split) <;> simp [Same, SamePhase]) _

@[simp] theorem Dev.checkQuarantines_keeps (d : Dev) (ch : ChanId) :
    Same d (d.checkQuarantines ch) ∧ SamePhase d (d.checkQuarantines ch) := by
  unfold Dev.checkQuarantines
  exact foldl_same _ _ (fun d x => by (repeat' split) <;> simp [Same, SamePhase]) _

@[simp] theorem Dev.arbitrate_keeps (d : Dev) (ch : ChanId) :
    Same d (d.arbitrate ch) ∧ SamePhase d (d.arbitrate ch) := by
  unfold Dev.arbitrate
  try dsimp only
  (repeat' split) <;> simp [*, Same, SameLine, SameRings, SameControl, SamePhase]

@[simp] theorem Dev.updateStation_keeps (d : Dev) (ch : ChanId) (st : StationId) (f : StationRec → StationRec) :
    Same d (d.updateStation ch st f) ∧ SamePhase d (d.updateStation ch st f) := by
  unfold Dev.updateStation
  try dsimp only
  (repeat' split) <;> simp [*, Same, SameLine, SameRings, SameControl, SamePhase]

@[simp] theorem Dev.applyParkedStation_keeps (d : Dev) (ch : ChanId) (st : StationId) :
    Same d (d.applyParkedStation ch st) ∧ SamePhase d (d.applyParkedStation ch st) := by
  unfold Dev.applyParkedStation
  exact foldl_same _ _ (fun d x => by (repeat' split) <;> simp [Same, SamePhase]) _

@[simp] theorem Dev.stationVerdict_keeps (d : Dev) (ch : ChanId) (st : StationId) (v : Verdict) :
    Same d (d.stationVerdict ch st v) ∧ SamePhase d (d.stationVerdict ch st v) := by
  unfold Dev.stationVerdict
  try dsimp only
  (repeat' split) <;> simp [*, Same, SameLine, SameRings, SameControl, SamePhase]

@[simp] theorem Dev.actOnWindow_keeps (d : Dev) (ch : ChanId) :
    Same d (d.actOnWindow ch) ∧ SamePhase d (d.actOnWindow ch) := by
  unfold Dev.actOnWindow
  try dsimp only
  (repeat' split) <;> simp [*, Same, SameLine, SameRings, SameControl, SamePhase]

@[simp] theorem Dev.enterIdle_keeps (d : Dev) (ch : ChanId) :
    Same d (d.enterIdle ch) ∧ SamePhase d (d.enterIdle ch) := by
  unfold Dev.enterIdle
  try dsimp only
  (repeat' split) <;> simp [*, Same, SameLine, SameRings, SameControl, SamePhase]

/-- A channel that stops: its line alone, and the answer of a parked CHANNEL_DISABLE. -/
@[simp] theorem Dev.stopChannel_keeps (d : Dev) (ch : ChanId) :
    Same d (d.stopChannel ch) ∧ SameRings d (d.stopChannel ch) ∧ (d.stopChannel ch).stations = d.stations ∧
    (d.stopChannel ch).port = d.port ∧ SamePhase d (d.stopChannel ch) := by
  unfold Dev.stopChannel
  simp [Same, SameLine, SameRings, SamePhase]

/-- The wind-down of a channel, as `stopChannel_keeps`. -/
@[simp] theorem Dev.windDown_keeps (d : Dev) (ch : ChanId) :
    Same d (d.windDown ch) ∧ SameRings d (d.windDown ch) ∧ (d.windDown ch).stations = d.stations ∧
    (d.windDown ch).port = d.port ∧ SamePhase d (d.windDown ch) := by
  unfold Dev.windDown
  split <;> simp [Same, SameRings, SamePhase]

@[simp] theorem Dev.activityOver_keeps (d : Dev) (ch : ChanId) :
    Same d (d.activityOver ch) ∧ SamePhase d (d.activityOver ch) := by
  unfold Dev.activityOver
  try dsimp only
  (repeat' split) <;> simp [*, Same, SameLine, SameRings, SameControl, SamePhase]

@[simp] theorem Dev.enterStuck_keeps (d : Dev) (ch : ChanId) :
    Same d (d.enterStuck ch) ∧ SamePhase d (d.enterStuck ch) := by
  unfold Dev.enterStuck
  try dsimp only
  (repeat' split) <;> simp [*, Same, SameLine, SameRings, SameControl, SamePhase]

@[simp] theorem Dev.headVerdict_keeps (d : Dev) (r : RingId) (v : Verdict) (q l : Bool) :
    Same d (d.headVerdict r v q l) ∧ SamePhase d (d.headVerdict r v q l) := by
  unfold Dev.headVerdict
  try dsimp only
  (repeat' split) <;> simp [*, Same, SameLine, SameRings, SameControl, SamePhase]

/-- A final verdict leaves the time, the part state and the alert unit (R97). -/
@[simp] theorem Dev.finishAttempt_keeps (d : Dev) (ch : ChanId) (v : Verdict) (m : Moment) (l : Bool) :
    Same d (d.finishAttempt ch v m l) ∧ SamePhase d (d.finishAttempt ch v m l) := by
  unfold Dev.finishAttempt
  try dsimp only
  (repeat' split) <;> simp [*, Same, SameLine, SameRings, SameControl, SamePhase]

@[simp] theorem Dev.startAttempt_keeps (d : Dev) (ch : ChanId) (r : RingId) (v : HeadView) (w : WindowRec) :
    Same d (d.startAttempt ch r v w) ∧ SamePhase d (d.startAttempt ch r v w) := by
  unfold Dev.startAttempt
  try dsimp only
  (repeat' split) <;> simp [*, Same, SameLine, SameRings, SameControl, SamePhase]

@[simp] theorem Dev.checkSelection_keeps (d : Dev) (ch : ChanId) :
    Same d (d.checkSelection ch) ∧ SamePhase d (d.checkSelection ch) := by
  unfold Dev.checkSelection
  try dsimp only
  (repeat' split) <;> simp [*, Same, SameLine, SameRings, SameControl, SamePhase]

@[simp] theorem Dev.faultSelected_keeps (d : Dev) (s : Option Selection) :
    Same d (d.faultSelected s) ∧ SamePhase d (d.faultSelected s) := by
  unfold Dev.faultSelected
  try dsimp only
  (repeat' split) <;> simp [*, Same, SameLine, SameRings, SameControl, SamePhase]

@[simp] theorem Dev.takeWindow_keeps (d : Dev) (ch : ChanId) (w : Option WindowRec) :
    Same d (d.takeWindow ch w) ∧ SamePhase d (d.takeWindow ch w) := by
  unfold Dev.takeWindow
  try dsimp only
  (repeat' split) <;> simp [*, Same, SameLine, SameRings, SameControl, SamePhase]

@[simp] theorem Dev.swapIfDue_keeps (d : Dev) (ch : ChanId) :
    Same d (d.swapIfDue ch) ∧ SamePhase d (d.swapIfDue ch) := by
  unfold Dev.swapIfDue
  try dsimp only
  (repeat' split) <;> simp [*, Same, SameLine, SameRings, SameControl, SamePhase]

@[simp] theorem Dev.expireHolds_keeps (d : Dev) (ch : ChanId) :
    Same d (d.expireHolds ch) ∧ SamePhase d (d.expireHolds ch) := by
  unfold Dev.expireHolds
  exact foldl_same _ _ (fun d x => by (repeat' split) <;> simp [Same, SamePhase]) _

@[simp] theorem Dev.dropHolds_keeps (d : Dev) (ch : ChanId) :
    Same d (d.dropHolds ch) ∧ SamePhase d (d.dropHolds ch) := by
  unfold Dev.dropHolds
  exact foldl_same _ _ (fun d x => by (repeat' split) <;> simp [Same, SamePhase]) _

/-- A cycle start leaves the time, the part state and the alert unit (R53). -/
@[simp] theorem Dev.cycleSteps_keeps (d : Dev) (ch : ChanId) (t : Moment) :
    Same d (d.cycleSteps ch t) ∧ SamePhase d (d.cycleSteps ch t) := by
  unfold Dev.cycleSteps
  try dsimp only
  (repeat' split) <;> simp [*, Same, SameLine, SameRings, SameControl, SamePhase]

/-- A valid alert leaves the time, the part state and the alert unit (R116). -/
@[simp] theorem Dev.hearAlert_keeps (d : Dev) (ch : ChanId) (w : WindowId) (a : AlertFrame) :
    Same d (d.hearAlert ch w a) ∧ SamePhase d (d.hearAlert ch w a) := by
  unfold Dev.hearAlert
  try dsimp only
  (repeat' split) <;> simp [*, Same, SameLine, SameRings, SameControl, SamePhase]

end Sys2Proof.Machine
end

