-- ==== Sys2Proof/Laws/Control.lean ====
section
/-! SUPPORT. The command in hand: what its answer and its parking are, and which command the engine is taking. -/

namespace Sys2Proof.Machine

/-- Operations that keep the part state keep what is read from it. -/
theorem part_of_same {d e : Dev} (h : Same d e) :
    e.halted = d.halted ∧ e.running = d.running ∧ e.resetting = d.resetting := by
  simp_all [Same, Dev.halted, Dev.running, Dev.resetting]

/-- The command that the engine is taking. -/
theorem acting_of_taking {d : Dev} {r : Record} {c : Command} (h : d.Taking r c) : d.acting = some c := by
  obtain ⟨phase, answering, hand, check⟩ := h
  simp [Dev.acting, phase, answering, hand, commandOf, check]

/-- With a record in hand, the answer is the entry of that record, and the engine is POSTING. -/
theorem completeInHand_eq {d : Dev} {r : Record} (h : d.engine.inHand = some r) (status : ControlStatus) (detail : Nat)
    (payload : List Byte) : d.completeInHand status detail payload = d.answered r status detail payload := by
  simp [Dev.completeInHand, h, Dev.answered, Dev.postCcr, Dev.setEngine, Dev.setCcr, Dev.halted, Dev.controlEntry,
    Dev.windowIndex, Dev.chan, Dev.station]

/-- With a record in hand, parking puts it at the tail of the list. -/
theorem park_eq {d : Dev} {r : Record} (h : d.engine.inHand = some r) (note : ParkNote) :
    d.park note = d.parkedAtTail r note := by
  simp [Dev.park, Dev.parkInHand, h, Dev.parkedAtTail]

/-- Halting a part that is STARTING or RUNNING; any other is left as it is (R165). -/
theorem halt_eq (d : Dev) (cause : HaltCause) :
    d.halt cause = if d.port.part = .starting ∨ d.port.part = .running then d.haltedBy cause else d := by
  unfold Dev.halt
  split
  · rfl
  · rfl

end Sys2Proof.Machine
end

