-- ==== Sys2Proof/Laws/Frames.lean ====
section
/-! SUPPORT. Frames on the line and the receiver: fields, bytes and whole response and alert frames read back as they were
sent (R5, R172). -/

namespace Sys2Proof.Machine

@[simp] theorem bitsOf_length (n w : Nat) : (bitsOf n w).length = w := by simp [bitsOf]

/-- The bits of one more place: the highest first. -/
theorem bitsOf_succ (n w : Nat) : bitsOf n (w + 1) = n.testBit w :: bitsOf n w := by
  simp only [bitsOf, List.range_succ_eq_map, List.map_cons, List.map_map]
  refine List.cons_eq_cons.mpr ⟨by simp, List.map_congr_left fun i _ => ?_⟩
  simp only [Function.comp]
  congr 1
  omega

/-- Reading bits after a number already read. -/
theorem foldl_bits (m : Nat) (bits : List Bool) :
    bits.foldl (fun n b => 2 * n + b.toNat) m = m * 2 ^ bits.length + natOfBits bits := by
  induction bits generalizing m with
  | nil => simp [natOfBits]
  | cons b bits ih =>
    simp only [List.foldl_cons, natOfBits, List.length_cons]
    rw [ih, ih (2 * 0 + b.toNat), Nat.pow_succ]
    ring

/-- The bits of a number spell it. -/
theorem natOfBits_bitsOf (n w : Nat) : natOfBits (bitsOf n w) = n % 2 ^ w := by
  induction w with
  | zero => simp [bitsOf, natOfBits, Nat.mod_one]
  | succ w ih =>
    rw [bitsOf_succ, natOfBits, List.foldl_cons, foldl_bits, ih, bitsOf_length, Nat.mod_pow_succ,
      Nat.testBit_eq_decide_div_mod_eq]
    rcases Nat.mod_two_eq_zero_or_one (n / 2 ^ w) with h | h <;> simp [h]; omega

/-- Fields sent are read back. -/
theorem cutFields_joinFields (ws ns : List Nat) (rest : List Bool) (h : List.Forall₂ (fun w n => n < 2 ^ w) ws ns) :
    cutFields ws (joinFields ws ns ++ rest) = ns := by
  induction h with
  | nil => rfl
  | @cons w n ws ns small _ ih =>
    simp [cutFields, joinFields, natOfBits_bitsOf, Nat.mod_eq_of_lt small, ih]

theorem joinFields_length (ws ns : List Nat) (h : ws.length = ns.length) : (joinFields ws ns).length = ws.sum := by
  induction ws generalizing ns with
  | nil => simp [joinFields]
  | cons w ws ih =>
    cases ns with
    | nil => simp at h
    | cons n ns => simp [joinFields, ih ns (by simpa using h)]

@[simp] theorem byteBits_length (bytes : List Byte) : (byteBits bytes).length = 8 * bytes.length := by
  induction bytes with
  | nil => rfl
  | cons b bytes ih => simp_all [byteBits]; omega

/-- Bytes sent are read back. -/
theorem cutBytes_byteBits (bytes : List Byte) (rest : List Bool) :
    cutBytes bytes.length (byteBits bytes ++ rest) = bytes := by
  induction bytes with
  | nil => rfl
  | cons b bytes ih =>
    have small : BitVec.ofNat 8 (b.toNat % 256) = b := BitVec.eq_of_toNat_eq (by simp; omega)
    simp only [cutBytes, List.length_cons, List.replicate_succ, cutFields, byteBits, List.flatMap_cons, List.map_cons,
      List.append_assoc, List.take_append, List.drop_append, bitsOf_length] at ih ⊢
    simp [natOfBits_bitsOf, small, ih, List.take_of_length_le, List.drop_of_length_le]

/-- A frame that is recognised by its delimiter is received by its bits after the delimiter. -/
theorem receive_frameBits (k : FrameType) (header : List Bool) (payload : List Byte) :
    receive (frameBits k.delimiter header payload) = k.receive (header ++ byteBits payload ++
      bitsOf (crc16 (header ++ byteBits payload)).toNat 16) := by
  have start : preamble = [true, false, true, false, true, false, true, false] := by decide
  have read : delimiterOf (bitsOf k.delimiter 8) = some k := by cases k <;> decide
  rw [frameBits, start]
  simp only [List.cons_append, List.nil_append, receive, start, List.take_succ_cons, List.take_zero, List.drop_succ_cons,
    List.drop_zero, List.append_assoc, List.take_left' (bitsOf_length k.delimiter 8), if_true, read]
  simp

/-- A frame whose header reads back as it was sent, and gives the payload's length, is received whole with a good check. -/
theorem receive_whole (k : FrameType) (header : List Bool) (payload : List Byte) (size : header.length = k.headerBits)
    (length : k.payloadLength header = some payload.length) :
    receive (frameBits k.delimiter header payload) = .frame (k.frame header payload true) := by
  rw [receive_frameBits, FrameType.receive]
  have cut : (header ++ byteBits payload ++ bitsOf (crc16 (header ++ byteBits payload)).toNat 16).take k.headerBits =
      header := by simp [← size, List.append_assoc]
  have covered : (header ++ byteBits payload ++ bitsOf (crc16 (header ++ byteBits payload)).toNat 16).take
      (k.headerBits + 8 * payload.length) = header ++ byteBits payload := by
    rw [← size]; exact List.take_left' (by simp)
  have after : (header ++ byteBits payload ++ bitsOf (crc16 (header ++ byteBits payload)).toNat 16).drop
      (k.headerBits + 8 * payload.length) = bitsOf (crc16 (header ++ byteBits payload)).toNat 16 := by
    rw [← size]; exact List.drop_left' (by simp)
  have bytes : cutBytes payload.length ((header ++ byteBits payload ++
      bitsOf (crc16 (header ++ byteBits payload)).toNat 16).drop k.headerBits) = payload := by
    rw [← size, List.append_assoc, List.drop_left, cutBytes_byteBits]
  simp only [cut, length, covered, after, bytes]
  simp [List.take_of_length_le]

/-- A response frame that the receiver can report whole, sent with a good check, is reported as it was sent (R8, R172). -/
theorem receive_response (address : BitVec 6) (kind : BitVec 2) (toggle : Bool) (length : BitVec 6) (spare : Bool)
    (payload : List Byte) (formed : RxFrame.formed (.response address kind toggle length spare payload true) = true) :
    receive (RxFrame.sent (.response address kind toggle length spare payload true)) =
      .frame (.response address kind toggle length spare payload true) := by
  simp only [RxFrame.formed, Bool.and_eq_true, decide_eq_true_eq, beq_iff_eq] at formed
  have defined : kind.toNat ≠ 3 := fun h => formed.1.1 (BitVec.eq_of_toNat_eq h)
  have read := cutFields_joinFields FrameType.response.widths
    [address.toNat, kind.toNat, toggle.toNat, length.toNat, spare.toNat] [] (by
      simp only [FrameType.widths, List.forall₂_cons, List.Forall₂.nil, and_true]
      exact ⟨address.isLt, kind.isLt, by cases toggle <;> decide, length.isLt, by cases spare <;> decide⟩)
  rw [List.append_nil] at read
  refine (receive_whole .response (joinFields FrameType.response.widths
    [address.toNat, kind.toNat, toggle.toNat, length.toNat, spare.toNat]) payload (joinFields_length _ _ rfl) ?_).trans ?_
  · simp only [FrameType.payloadLength, read]
    rw [if_neg (by omega), formed.2]
  · simp only [FrameType.frame, read]
    cases toggle <;> cases spare <;> simp

/-- An alert frame that the receiver can report whole, sent with a good check, is reported as it was sent (R9, R172). -/
theorem receive_alert (address : BitVec 6) (priority : BitVec 3) (length : BitVec 4) (code : Byte) (spare : BitVec 3)
    (payload : List Byte) (formed : RxFrame.formed (.alert address priority length code spare payload true) = true) :
    receive (RxFrame.sent (.alert address priority length code spare payload true)) =
      .frame (.alert address priority length code spare payload true) := by
  simp only [RxFrame.formed, Bool.and_eq_true, decide_eq_true_eq, beq_iff_eq] at formed
  have zero : address.toNat ≠ 0 := fun h => formed.1.1.1 (BitVec.eq_of_toNat_eq h)
  have top : address.toNat ≠ 63 := fun h => formed.1.1.2 (BitVec.eq_of_toNat_eq h)
  have read := cutFields_joinFields FrameType.alert.widths
    [address.toNat, priority.toNat, length.toNat, code.toNat, spare.toNat] [] (by
      simp only [FrameType.widths, List.forall₂_cons, List.Forall₂.nil, and_true]
      exact ⟨address.isLt, priority.isLt, length.isLt, code.isLt, spare.isLt⟩)
  rw [List.append_nil] at read
  refine (receive_whole .alert (joinFields FrameType.alert.widths
    [address.toNat, priority.toNat, length.toNat, code.toNat, spare.toNat]) payload (joinFields_length _ _ rfl) ?_).trans ?_
  · simp only [FrameType.payloadLength, read]
    rw [if_neg (by omega), formed.2]
  · simp [FrameType.frame, read]

end Sys2Proof.Machine
end

