-- ==== Sys2Proof/Laws/Line.lean ====
section
/-! SUPPORT. What the receiver's reports can do to a channel: the fields that the note of a report and the hearing of a
stretch leave, and the three outcomes of judging whether a stretch is over. -/

namespace Sys2Proof.Machine

@[simp] theorem Channel.report_unreported (c : Channel) : c.report.unreported = false := rfl
@[simp] theorem Channel.report_state (c : Channel) : c.report.state = c.state := rfl
@[simp] theorem Channel.report_attempt (c : Channel) : c.report.attempt = c.attempt := rfl
@[simp] theorem Channel.report_listening (c : Channel) : c.report.listening = c.listening := rfl
@[simp] theorem Channel.report_lineActive (c : Channel) : c.report.lineActive = c.lineActive := rfl
@[simp] theorem Channel.report_lastQuiet (c : Channel) : c.report.lastQuiet = c.lastQuiet := rfl
@[simp] theorem Channel.report_counters (c : Channel) : c.report.counters = c.counters := rfl

@[simp] theorem Channel.hearStretch_state (l : Listening) (start : Moment) (c : Channel) :
    (c.hearStretch l start).state = c.state := rfl
@[simp] theorem Channel.hearStretch_lineActive (l : Listening) (start : Moment) (c : Channel) :
    (c.hearStretch l start).lineActive = c.lineActive := rfl
@[simp] theorem Channel.hearStretch_counters (l : Listening) (start : Moment) (c : Channel) :
    (c.hearStretch l start).counters = c.counters := rfl
@[simp] theorem Channel.hearStretch_listening (l : Listening) (start : Moment) (c : Channel) :
    (c.hearStretch l start).listening = some { l with stretch := some start, counted := false } := rfl

/-- What judging a stretch can do: nothing, unless the channel is LISTENING and both the quiet and the report of its stretch
have been taken; the stretch is then no longer heard, and the listening is over where something waits for that. -/
theorem Dev.stretchOver_cases (d : Dev) (ch : ChanId) :
    (d.stretchOver ch = d ∧
      ((d.chan ch).state ≠ .listening ∨ (d.chan ch).listening = none ∨ (d.chan ch).stretchDone = false)) ∨
    ∃ l, (d.chan ch).state = .listening ∧ (d.chan ch).listening = some l ∧ (d.chan ch).stretchDone = true ∧
      let e := d.modChan ch fun c => { c with listening := some { l with stretch := none } }
      (d.stretchOver ch = e.activityOver ch ∧ (e.disableParked ch ∨ l.ended ∨ e.halted)) ∨
      (d.stretchOver ch = e ∧ ¬ (e.disableParked ch ∨ l.ended ∨ e.halted)) := by
  unfold Dev.stretchOver
  split
  case _ l state listening =>
    split
    case _ done =>
      refine .inr ⟨l, state, listening, done, ?_⟩
      dsimp only
      split
      · exact .inl ⟨rfl, ‹_›⟩
      · exact .inr ⟨rfl, ‹_›⟩
    case _ going => exact .inl ⟨rfl, .inr (.inr (by simpa using going))⟩
  case _ other =>
    refine .inl ⟨rfl, ?_⟩
    cases h : (d.chan ch).listening with
    | none => exact .inr (.inl rfl)
    | some l => exact .inl fun state => other l state h

end Sys2Proof.Machine
end

