-- ==== Sys2Proof/Laws/Memory.lean ====
section
/-! SUPPORT. The memory image: every operation keeps the canonical form; what a read gives after a write. -/

namespace Sys2Proof.Machine

/-- Every address of an image after a write is the one written or was there before. -/
theorem Memory.mem_write {a : Nat} {b : Byte} {c : Host.Cell} {m : List Host.Cell} (h : c ∈ Memory.write a b m) :
    c.1 = a ∨ c ∈ m := by
  induction m with
  | nil => simp [Memory.write] at h; exact .inl (by rw [h])
  | cons x m ih =>
    simp only [Memory.write] at h
    split at h
    · rcases List.mem_cons.1 h with h | h
      · exact .inl (by rw [h])
      · exact .inr h
    · split at h
      · rcases List.mem_cons.1 h with h | h
        · exact .inl (by rw [h])
        · exact .inr (List.mem_cons_of_mem _ h)
      · rcases List.mem_cons.1 h with h | h
        · exact .inr (by simp [h])
        · exact (ih h).imp id (List.mem_cons_of_mem _)

/-- A write keeps the canonical form. -/
theorem Memory.wf_write (a : Nat) (b : Byte) {m : List Host.Cell} (h : Memory.wf m) : Memory.wf (Memory.write a b m) := by
  induction m with
  | nil => simp [Memory.write]
  | cons x m ih =>
    replace h := List.pairwise_cons.1 h
    simp only [Memory.write]
    split
    · rename_i hlt
      refine List.pairwise_cons.2 ⟨fun c hc => ?_, List.pairwise_cons.2 h⟩
      rcases List.mem_cons.1 hc with rfl | hc
      · exact hlt
      · exact Nat.lt_trans hlt (h.1 c hc)
    · split
      · rename_i _ heq
        exact List.pairwise_cons.2 ⟨fun c hc => heq ▸ h.1 c hc, h.2⟩
      · refine List.pairwise_cons.2 ⟨fun c hc => ?_, ih h.2⟩
        rcases Memory.mem_write hc with he | hc
        · show x.1 < c.1
          rw [he]; omega
        · exact h.1 c hc

/-- Writing bytes keeps the canonical form. -/
theorem Memory.wf_writeBytes (a : Nat) (bs : List Byte) {m : List Host.Cell} (h : Memory.wf m) :
    Memory.wf (Memory.writeBytes a bs m) := by
  induction bs generalizing a m with
  | nil => exact h
  | cons b bs ih => exact ih (a + 1) (Memory.wf_write a b h)

/-- A read of the address written gives the byte written. -/
theorem Memory.read_write_self (a : Nat) (b : Byte) (m : List Host.Cell) : Memory.read (Memory.write a b m) a = some b := by
  induction m with
  | nil => simp [Memory.write, Memory.read]
  | cons x m ih =>
    simp only [Memory.write]
    split
    · simp [Memory.read]
    · split
      · simp [Memory.read]
      · rename_i hne
        have : (x.1 == a) = false := by simpa using fun h : x.1 = a => hne h.symm
        simpa [Memory.read, List.find?_cons, this] using ih

/-- A read of any other address gives what it gave before. -/
theorem Memory.read_write_ne {a k : Nat} (b : Byte) (m : List Host.Cell) (h : k ≠ a) :
    Memory.read (Memory.write a b m) k = Memory.read m k := by
  have hak : (a == k) = false := by simpa using fun e : a = k => h e.symm
  induction m with
  | nil => simp [Memory.write, Memory.read, hak]
  | cons x m ih =>
    simp only [Memory.write]
    split
    · simp [Memory.read, hak]
    · split
      · rename_i _ heq
        have : (x.1 == k) = false := by rw [← heq]; exact hak
        simp [Memory.read, hak, this]
      · simp only [Memory.read, List.find?_cons] at ih ⊢
        split
        · rfl
        · exact ih

/-- A read outside the bytes written gives what it gave before. -/
theorem Memory.read_writeBytes_outside {a k : Nat} (bs : List Byte) (m : List Host.Cell)
    (h : k < a ∨ a + bs.length ≤ k) : Memory.read (Memory.writeBytes a bs m) k = Memory.read m k := by
  induction bs generalizing a m with
  | nil => rfl
  | cons b bs ih =>
    simp only [List.length_cons] at h
    rw [Memory.writeBytes, ih _ (by omega), Memory.read_write_ne _ _ (by omega)]

/-- A read of the `i`-th byte written gives that byte. -/
theorem Memory.read_writeBytes_inside {a i : Nat} (bs : List Byte) (m : List Host.Cell) (h : i < bs.length) :
    Memory.read (Memory.writeBytes a bs m) (a + i) = some bs[i] := by
  induction bs generalizing a i m with
  | nil => exact absurd h (by simp)
  | cons b bs ih =>
    cases i with
    | zero => rw [Memory.writeBytes, Memory.read_writeBytes_outside _ _ (by omega)]; exact Memory.read_write_self a b m
    | succ i =>
      have := ih (a := a + 1) (i := i) (Memory.write a b m) (by simpa using h)
      rw [show a + (i + 1) = a + 1 + i by omega]
      simpa [Memory.writeBytes] using this

end Sys2Proof.Machine
end

