-- ==== Sys2Proof/WellFormed.lean ====
section
/-! DEFINITION. Well-formed commands: what the outside world can put to the part. A register write is 1, 2 or 4 bytes at a
multiple of its width (R162); a frame report carries a frame the receiver can report as whole (R8, R9). Every other
command is well formed with every operand its type admits. -/

namespace Sys2Proof

/-- A write to the register window is 1, 2 or 4 bytes wide, at an offset that is a multiple of its width. -/
def writeFits (offset : BitVec 6) (bytes : Nat) : Bool :=
  [1, 2, 4].contains bytes && offset.toNat % bytes == 0

/-- The checks of a command. -/
def Instr.wf : Instr → Bool
  | .registerWrite _ offset bytes _ => writeFits offset bytes
  | .frameReport _ _ frame => Machine.RxFrame.formed frame
  | .powerOnReset _ | .controllerReset _ _ | .resetEnd _ | .enableSet _ | .enableClear _ | .intStatusClear _ _
  | .intMaskWrite _ _ | .postTransactionRing _ _ _ | .postControlRing _ _ | .freeCompletionRing _ _ _ | .freeCcr _ _
  | .rootReadData _ _ | .rootReadError _ | .recordReadData _ _ _ | .recordReadError _ _ | .controlReadData _ _
  | .controlReadError _ | .readCompletionLimitExpiry _ | .entryWriteEnd _ _ | .entryWriteError _ _ | .ccrWriteError _
  | .statusWriteEnd _ _ | .statusWriteError _ _ | .reservationGrant _ _ | .ccrReservationGrant _
  | .lineActivityStart _ _ | .lineQuiet _ _ | .malformedFrameReport _ _ | .nonFrameActivity _ _
  | .responseWindowExpiry _ | .trailingGapElapsed _ | .quietFound _ | .chatterQuietFound _ | .quietWaitLimitExpiry _
  | .chatterLimitExpiry _ | .overlongResponse _ | .overlongAlertStretch _ | .frameSent _ | .cycleStart _
  | .scheduleSwap _ | .holdExpiry _ _ | .deadlinePassed _ | .windowStart _ | .nop _ | .ringSetup _ | .ringStart _
  | .ringStop _ | .ringFlush _ | .cringSetup _ | .channelConfig _ | .channelEnable _ | .channelDisable _
  | .channelReset _ | .scheduleWrite _ | .scheduleCommit _ | .scheduleCancel _ | .stationSet _ | .stationRead _
  | .stationRelease _ | .filterWrite _ | .filterBins _ | .filterMode _ | .alertMap _ | .countersRead _ => true

end Sys2Proof
end

