-- ==== Sys2Proof/Tests/Slice0.lean ====
section
/-! SUPPORT. Tests: the checks of WellFormed refuse ill-formed terms; figures the spec works out; single steps; and, for
each statement that has hypotheses, a state and operands that meet them, clause by clause. -/

set_option Elab.async false

namespace Sys2Proof.Tests

open Sys2Proof.Machine

/-! ## Helpers -/

/-- A record from pairs of byte offset and value. -/
def record (fields : List (Nat × Nat)) : Record :=
  BitVec.ofNat 512 (fields.foldl (fun n f => n + f.2 * 2 ^ (8 * f.1)) 0)

/-- A part that is RUNNING with its control ring and CCR set up. -/
def running : Dev where
  port := { part := .running, enable := true }
  engine := { base := 0x10000, size := 16 }
  ccr := { active := true, slots := { base := 0x20000, size := 16 } }

/-- The part in a given part state. -/
def inPart (p : PartState) : Dev := running.setPort { running.port with part := p }

/-- The control engine holding a record in ACTING. -/
def acting (d : Dev) (r : Record) : Dev :=
  d.setEngine { d.engine with phase := .acting, inHand := some r, answering := false }

/-- A state with nothing waiting. -/
def at_ (d : Dev) : State := { pending := [], mem := [], dev := d }

/-- Channel 0 in a given condition. -/
def withChan (c : Channel) : Dev := running.setChan 0 c

/-- What a command leaves of the part, seen through `f`. -/
def after {α : Type} (f : Dev → α) (c : Instr) (d : Dev) : Option α :=
  match exec c (at_ d) with
  | .next t => some (f t.dev)
  | _ => none

/-! ## Ill-formed commands -/

theorem test_wf_refuses_width_3 : (Instr.registerWrite 0 0x04 3 0).wf = false := by decide

theorem test_wf_refuses_misaligned : (Instr.registerWrite 0 0x06 4 0).wf = false := by decide

theorem test_wf_refuses_long_command : (Instr.frameReport 0 0 (.command 0 (List.replicate 33 0) true)).wf = false := by
  decide

theorem test_wf_refuses_response_kind_3 : (Instr.frameReport 0 0 (.response 5 3 false 0 false [] true)).wf = false := by
  decide

theorem test_wf_refuses_response_length_33 :
    (Instr.frameReport 0 0 (.response 5 0 false 33 false (List.replicate 33 0) true)).wf = false := by decide

theorem test_wf_refuses_response_short_payload :
    (Instr.frameReport 0 0 (.response 5 0 false 2 false [1] true)).wf = false := by decide

theorem test_wf_refuses_alert_station_0 : (Instr.frameReport 0 0 (.alert 0 3 0 0 0 [] true)).wf = false := by decide

theorem test_wf_refuses_alert_station_63 : (Instr.frameReport 0 0 (.alert 63 3 0 0 0 [] true)).wf = false := by decide

theorem test_wf_refuses_alert_length_9 :
    (Instr.frameReport 0 0 (.alert 5 3 9 0 0 (List.replicate 9 0) true)).wf = false := by decide

theorem test_wf_refuses_alert_short_payload : (Instr.frameReport 0 0 (.alert 5 3 2 0 0 [1] true)).wf = false := by decide

theorem test_wf_admits : (Instr.registerWrite 0 0x3C 4 0).wf ∧ (Instr.registerWrite 0 0x05 1 0).wf ∧
    (Instr.frameReport 0 0 (.response 5 0 true 2 false [1, 2] true)).wf ∧
    (Instr.frameReport 0 0 (.alert 62 7 0 255 0 [] false)).wf := by decide

/-! ## Figures the spec works out -/

/-- A channel at a rate and gap. -/
def rated (rate : BusRate) (gap : Nat) : Channel := { rate := rate, gap := gap }

/-- A transaction record with an operation, a station and a length. -/
def asks (operation station length : Nat) : TransRecord :=
  TransRecord.ofRecord (record [(0, operation), (1, station), (2, length)])

/-- The rows of R17's table, in units of 125 ns. -/
theorem test_needed_time : neededTime (rated .r2 16) (asks 0 9 4) (some 20) = 8 * 100 ∧
    neededTime (rated .r8 16) (asks 1 9 8) (some 20) = 8 * 45 ∧
    neededTime (rated .r1 16) (asks 2 9 32) (some 50) = 8 * 690 ∧
    neededTime (rated .r1 4) (asks 0 9 1) (some 2) = 8 * 126 ∧
    4 * neededTime (rated .r4 63) (asks 1 9 0) (some 255) = 8 * 1203 ∧
    neededTime (rated .r4 20) (asks 1 0 4) none = 8 * 29 := by decide +kernel

/-- The rows of R121's table. -/
theorem test_bins : binOf { station := 4, priority := 0, code := 35, payload := [] } = 55 ∧
    binOf { station := 20, priority := 0, code := 35, payload := [] } = 55 ∧
    binOf { station := 6, priority := 0, code := 12, payload := [] } = 16 ∧
    binOf { station := 61, priority := 0, code := 255, payload := [] } = 7 ∧
    binOf { station := 0, priority := 0, code := 0, payload := [] } = 4 := by decide

/-- The rows of 4.11: late when taken, and due at the cycle start given but not at the one before. -/
theorem test_serial_rule : Cycle.before 105 100 = false ∧ commitDue false 105 105 ∧ commitDue false 105 104 = false ∧
    Cycle.before 100 100 = false ∧ commitDue false 100 101 ∧ Cycle.before 97 100 ∧
    Cycle.before 1 4294967294 = false ∧ commitDue false 1 0 = false ∧ commitDue false 1 1 ∧
    Cycle.before 4294967290 5 ∧ Cycle.before 2147483748 100 = false ∧
    commitDue false 2147483748 2147483747 = false ∧ commitDue false 2147483748 2147483748 := by decide

/-- R5's check (generator and preset as R5 gives them) over the ASCII digits 1 to 9 is 0x29B1, by hand calculation. -/
theorem test_check : crc16 (byteBits [0x31, 0x32, 0x33, 0x34, 0x35, 0x36, 0x37, 0x38, 0x39]) = 0x29B1 := by decide +kernel

/-- The alerts of 7.8 whose decision rests on a bin: the bin of station 7 and code 12 is set. -/
theorem test_filter_by_bin :
    let u : AlertUnit := { bins := 0x10000, modes := #v[.dropAll, .passAll, .filter, .filterInverse] }
    let a : AlertFrame := { station := 6, priority := 3, code := 12, payload := [] }
    u.decide 0 a = none ∧ u.decide 1 a = some 3 ∧ u.decide 2 a = some 3 ∧ u.decide 3 a = none := by decide

/-! ## The receiver (R2, R5, R172), by the layouts of R172 and R8 and R9 -/

/-- The bits of bytes, each most significant first. -/
def wire (bytes : List Byte) : List Bool := byteBits bytes

/-- A response ACK of station 12, toggle 1, length 1, payload 0xA5: delimiter 0x5A, header 001100 00 1 000001 0. -/
def responseWire : List Byte := [0x30, 0x82, 0xA5]

/-- An alert of station 12, priority 5, length 0, code 0x23: delimiter 0x69, header 001100 101 0000 00100011 000. -/
def alertWire : List Byte := [0x32, 0x81, 0x18]

/-- Header and payload with preamble, delimiter and check. -/
def onWire (delimiter : Byte) (bytes : List Byte) : List Bool :=
  wire (0xAA :: delimiter :: bytes) ++ bitsOf (crc16 (wire bytes)).toNat 16

theorem test_receive_whole :
    receive (onWire 0x5A responseWire) = .frame (.response 12 0 true 1 false [0xA5] true) ∧
    receive (false :: false :: onWire 0x69 alertWire) = .frame (.alert 12 5 0 0x23 0 [] true) ∧
    RxFrame.sent (.response 12 0 true 1 false [0xA5] true) = onWire 0x5A responseWire := by decide +kernel

theorem test_receive_others :
    receive ((onWire 0x5A responseWire).dropLast) = .malformed ∧ receive (wire [0xAA, 0x00, 0x5A]) = .nonFrame ∧
    receive (wire ([0xAA, 0x5A] ++ responseWire ++ [0, 0])) = .frame (.response 12 0 true 1 false [0xA5] false) ∧
    receive (onWire 0x5A [0x33, 0x82, 0xA5]) = .malformed := by decide +kernel

/-! ## Concrete conditions -/

/-- The root record of a bring-up: rings of 16 at 0x10000 and 0x20000, the status area at 0x30000. -/
def rootRecord : Record := record [(0, 0x10000), (8, 16), (16, 0x20000), (24, 16), (32, 0x30000)]

/-- A READ of 2 bytes from register 7 of station 12. -/
def readRecord : TransRecord where
  operation := 0
  probe := false
  retryFlag := false
  holdFlag := false
  deadlineFlag := false
  station := 12
  length := 2
  retryLimit := 0
  holdLimit := 0
  register := 7
  tag := 0xAABB
  deadline := 0
  payload := []

/-- The setup of TR2 in these tests: 8 slots, CH0, class 3, CR1. -/
def binding : Binding := { size := 8, channel := 0, cls := 3, cring := 1 }

/-- TR2 in a ring state with one staged record and a head. -/
def ringWith (state : RingState) (t : TransRecord) (validity : Validity) (h : Head) : TransRing where
  state := state
  base := 0x50000
  binding := some binding
  post := 1
  fetch := 1
  staging := [{ slot := 0, record := t, validity := validity }]
  head := some h

/-- CR1 ACTIVE with 16 slots and a number of reservations. -/
def cr1 (reservations : Nat) : Cring :=
  { state := .active, slots := { base := 0x40000, size := 16, reservations := reservations } }

/-- A RUNNING part with CR1 ACTIVE, TR2 holding a head, and CH0 in a condition. -/
def loaded (x : TransRing) (c : Channel) : Dev := ((running.setCring 1 (cr1 1)).setRing 2 x).setChan 0 c

/-- A head that waits with its reservation. -/
def heldHead : Head := { reservation := .held }

/-- A head on the line at its first attempt. -/
def lineHead : Head := { state := .onLine, attempts := 1, retryLimit := some 2, holdLimit := some 3, reservation := .held,
                         window := some (5, 1) }

/-- A TRANSACT window of classes 3 alone, 1 ms from moment 0. -/
def transactWindow : WindowRec :=
  { cycle := 5, index := 1, kind := .transact, classes := 0x08, ends := 8000, call := .notDue }

/-- The window of an attempt or a CALL. -/
def instanceId : WindowId := { cycle := 5, index := 1, ends := 8000 }

/-- The attempt of TR2's head at station 12. -/
def attempt : Attempt where
  kind := .transaction
  ring := some 2
  station := some 11
  toggle := false
  resync := true
  expected := some 2
  window := instanceId

/-- An attempt of a broadcast from TR2's head. -/
def broadcast : Attempt := { attempt with kind := .broadcast, station := none, resync := false, expected := none }

/-- A CALL. -/
def call : Attempt := { broadcast with kind := .call, ring := none }

/-- The list of a channel's tests: an ALERT, a TRANSACT and a QUIET window. -/
def windows : List Window :=
  [{ duration := 10, kind := .alert, classes := 0 }, { duration := 990, kind := .transact, classes := 0x08 },
    { duration := 65535, kind := .quiet, classes := 0 }]

/-- A channel in a state, in window 1 of cycle 5. -/
def inState (state : ChanState) : Channel :=
  { state := state, operational := windows, cycle := 5, window := some transactWindow, cycleLength := 8 * 66535 }

/-! ## Witnesses: the step, the resets, the register window -/

theorem witness_StepRunsFront : ((at_ running).front (.nop 0)).pending = [.nop 0] ∧ State.reset.pending = [] := by decide

theorem witness_ResetsClearThePart : running.port.part ≠ .resetting ∧ (inPart .resetting).port.part = .resetting := by
  decide

theorem witness_ResetEndDisables :
    let waiting := (inPart .resetting).setPort { (inPart .resetting).port with drain := [.rootRead 64 0] }
    (inPart .resetting).port.drain = [] ∧ waiting.port.part = .resetting ∧ waiting.port.drain ≠ [] := by decide

theorem witness_EnableBitActs :
    let off (p : PartState) (root : Word) : Dev := running.setPort { part := p, rootLo := root, rootHi := 3 }
    let address (d : Dev) : Nat := d.port.rootHi.toNat * 2 ^ 32 + d.port.rootLo.toNat
    (inPart .resetting).port.part = .resetting ∧ running.port.enable = true ∧
    ((off .disabled 64).port.enable = false ∧ address (off .disabled 64) % 64 = 0) ∧
    address (off .disabled 63) % 64 ≠ 0 ∧ (off .running 0).port.part = .running ∧
    (off .starting 0).port.part = .starting ∧ (off .halted 0).port.part = .halted ∧
    after (fun u => u.port.start) (.enableSet 5) (off .disabled 64) = some (.reading 0x300000040 5) := by decide +kernel

theorem witness_InterruptRegistersAct : running.port.part ≠ .resetting ∧ (inPart .resetting).port.part = .resetting := by
  decide

theorem witness_RegisterWriteDispatches :
    let number (v : Word) := v.extractLsb' 0 4
    (inPart .resetting).port.part = .resetting ∧ (0x03 : BitVec 6).toNat % 4 ≠ 0 ∧ running.port.part ≠ .resetting ∧
    (number 0x00050000).toNat = (0 : RingId).val ∧ (number 0x00050007).toNat = (7 : RingId).val ∧ number 0xF = 15 ∧
    (8 ≤ (number 8).toNat ∧ number 8 ≠ 15) ∧ (8 ≤ (number 14).toNat ∧ number 14 ≠ 15) ∧
    (number 0).toNat = (0 : CrId).val ∧ (number 3).toNat = (3 : CrId).val ∧ (4 ≤ (number 4).toNat ∧ number 4 ≠ 15) ∧
    0x24 ≤ (0x24 : BitVec 6).toNat ∧ 0x24 ≤ (0x3C : BitVec 6).toNat ∧ (0x05 : BitVec 6).toNat % 4 + 3 ≤ 4 ∧
    (0x3F : BitVec 6).toNat % 4 + 1 ≤ 4 := by decide

/-- Reads of the window by R162: IDENT whole and its bytes 1 and 2, STATUS of a part HALTED by a CCR write error after a
POWER reset, and an unused offset. -/
theorem test_register_reads :
    let d := running.setPort { part := .halted, haltCause := .ccrWrite, resetCause := .power }
    d.readRegister 0 4 = [0x41, 0x0C, 0x71, 0x3B] ∧ d.readRegister 1 2 = [0x0C, 0x71] ∧
    d.readRegister 8 4 = [0x43, 0x01, 0, 0] ∧ d.readRegister 9 1 = [0x01] ∧ d.readRegister 0x3F 1 = [0] := by
  decide +kernel

theorem witness_PostMovesThePostIndex :
    let d := loaded (ringWith .stopped readRecord .valid {}) {}
    ((d.ring 2).binding = some binding ∧ (d.ring 2).state ≠ .disabled ∧ (7 : BitVec 12).toNat < binding.size) ∧
    (d.ring 0).binding = none ∧ (d.ring 0).state = .disabled ∧ binding.size ≤ (8 : BitVec 12).toNat := by decide

theorem witness_PostMovesTheControlIndex :
    let full := running.setEngine { running.engine with
      parked := List.replicate 8 { record := 0, waiting := true, note := .none } }
    let reserved := running.setEngine { running.engine with phase := .reserved }
    running.engine.size ≤ (16 : BitVec 12).toNat ∧ (15 : BitVec 12).toNat < running.engine.size ∧
    (inPart .halted).port.part ≠ .running ∧ (0 : BitVec 12).toNat = running.engine.read ∧
    (full.engine.phase = .idle ∧ 8 ≤ full.engine.parked.length) ∧
    ((15 : BitVec 12).toNat ≠ reserved.engine.read ∧ reserved.engine.phase = .reserved ∧ reserved.port.enable = true) ∧
    (running.engine.phase = .idle ∧ running.engine.parked.length < 8) := by decide

theorem witness_FreeMovesTheConsumerIndex :
    let slots : Slots := { base := 0, size := 16, producer := 2, consumer := 15 }
    let frees (i : BitVec 12) : Bool := slots.frees i.toNat
    let d := (running.setCring 0 { state := .active, slots := slots }).setCcr { active := true, slots := slots }
    frees 0 ∧ frees 2 ∧ frees 3 = false ∧ frees 15 = false ∧ frees 16 = false ∧
    (2 + 16 - 15) % 16 ≤ (slots.producer + slots.size - slots.consumer) % slots.size ∧
    ((d.cring 0).state = .active ∧ (d.cring 0).lost = 0 ∧ (d.cring 0).waiters = []) ∧ (d.cring 1).state ≠ .active ∧
    (d.ccr.active = true ∧ d.engine.events = [] ∧ d.ccr.requested = false) ∧ Ccr.active {} = false := by decide

/-- Slots of a ring of 8 with 5 entries occupied and a number of reservations. -/
def crowded (reservations : Nat) : Slots := { base := 0, size := 8, producer := 5, consumer := 0, reservations := reservations }

/-- CR0 so crowded, with 3 alerts lost and the heads of TR2 and TR5 waiting. -/
def losing (reservations : Nat) : Dev :=
  running.setCring 0 { state := .active, slots := crowded reservations, lost := 3, waiters := [2, 5] }

/-- The events of two faults. -/
def twoFaults : List Event :=
  [{ kind := .ringFault, object := 2, repeats := 1 }, { kind := .channelStuck, object := 0, repeats := 0 }]

/-- A part with these events pending, the engine's request waiting and a crowded CCR, CH0 in cycle 9. -/
def eventful (reservations : Nat) : Dev :=
  ((withChan { state := .stuck, cycle := 9 }).setEngine { running.engine with events := twoFaults }).setCcr
    { active := true, slots := crowded reservations, requested := true }

/-- The lost-alert count with and without room, waiters with no alert lost, pending events with the engine's request. -/
theorem witness_FreeMovesTheConsumerIndex_room :
    let free (n : Nat) : Slots := { crowded n with consumer := 2 }
    ((crowded 2).frees 2 ∧ (losing 2).cring 0 = { state := .active, slots := crowded 2, lost := 3, waiters := [2, 5] }) ∧
    (free 2).roomLeft = 2 ∧ (free 4).roomLeft = 0 ∧ (crowded 4).frees 2 ∧ (free 1).roomLeft = 3 ∧
    ((eventful 1).ccr.active ∧ (eventful 1).ccr.requested ∧ (eventful 1).engine.events = twoFaults) ∧
    ((losing 2).setCring 0 { state := .active, slots := crowded 2, waiters := [2, 5] }).cring 0 =
      { state := .active, slots := crowded 2, waiters := [2, 5] } := by decide

/-- R136, R139: the ALERTS_LOST entry first, then the oldest waiters; with no room nothing. -/
theorem test_free_gives_room :
    let heads (n : Nat) : Option (Nat × List RingId × List RingId) :=
      after (fun u => ((u.cring 0).lost, (u.cring 0).waiters, u.grants.map Grant.ring)) (.freeCompletionRing 5 0 2) (losing n)
    let entries (n : Nat) : Option (List (Nat × Nat)) :=
      after (fun u => (u.cring 0).slots.posting.map fun p => (p.entry.source, p.entry.detail.toNat))
        (.freeCompletionRing 5 0 2) (losing n)
    heads 2 = some (0, [5], [2]) ∧ entries 2 = some [(0, 3)] ∧ heads 4 = some (3, [2, 5], []) ∧ entries 4 = some [] := by
  decide +kernel

/-- R142, R144: the pending events first, with their details, then the engine's request where room is left. -/
theorem test_free_ccr_gives_room :
    let left (n : Nat) : Option (Nat × Bool) := after (fun u => (u.engine.events.length, u.ccr.granted)) (.freeCcr 5 2) (eventful n)
    left 1 = some (0, true) ∧ left 2 = some (0, false) ∧ left 3 = some (1, false) ∧
    after (fun u => u.ccr.slots.posting.map fun p => (p.entry.source, p.entry.detail.toNat)) (.freeCcr 5 2) (eventful 1) =
      some [(2, 0x01000001), (0, 0x03000000)] ∧
    after (fun u => u.ccr.slots.posting.map fun p => p.entry.cycle.toNat) (.freeCcr 5 2) (eventful 1) = some [0, 9] := by
  decide +kernel

/-! ## Witnesses: memory port, grants -/

theorem witness_RootReadEnds :
    let d := running.setPort { part := .starting, start := .reading 64 3 }
    d.port.part = .starting ∧ d.port.start = .reading 64 3 ∧ rootOk rootRecord = true ∧
    rootOk (record [(0, 0x10000), (8, 17), (16, 0x20000), (24, 16), (32, 0x30000)]) = false := by decide +kernel

/-- The read of slot 7 of a ring at 0x50000. -/
def slot7 : SlotRead := { slot := 7, address := 0x501C0, issued := 20 }

/-- TR2 with the read of slot 7 in flight. -/
def reading : TransRing :=
  { ringWith .active readRecord .valid {} with post := 3, fetch := 7, reading := some slot7 }

theorem witness_RecordReadStages :
    let d := running.setRing 2 reading
    d.port.part ≠ .resetting ∧ (d.ring 2).reading = some slot7 ∧ (d.ring 2).binding = some binding ∧
    after (fun u => ((u.ring 2).fetch, (u.ring 2).staging.length)) (.recordReadData 30 2 0) d = some (0, 2) ∧
    after (fun u => (u.ring 2).reading) (.recordReadData 30 2 0) d = some (some { slot := 0, address := 0x50000, issued := 30 }) ∧
    ((running.setRing 2 { reading with staging := [], head := none }).ring 2).staging = [] := by
  decide +kernel

theorem witness_RecordReadErrorFaults :
    let d := running.setRing 2 reading
    let stopping := running.setRing 2 { reading with state := .stopping }
    (d.port.part ≠ .resetting ∧ (d.ring 2).reading = some slot7 ∧ (d.ring 2).state ≠ .stopping) ∧
    ((stopping.ring 2).reading = some slot7 ∧ (stopping.ring 2).state = .stopping) ∧
    after (fun u => (u.ring 2).state) (.recordReadError 30 2) stopping = some .stopped ∧
    after (fun u => (u.ring 2).state) (.recordReadError 30 2) d = some .faulted := by decide +kernel

/-- R143, R144: an event that is pending counts a repeat; a new one leaves at once while RUNNING and stays while HALTED. -/
theorem test_enter_event :
    let pending := (inPart .halted).setEngine { running.engine with events := twoFaults }
    (pending.enterEvent .ringFault 2).engine.events.map Event.repeats = [2, 0] ∧
    (pending.enterEvent .ringFault 0).engine.events.length = 3 ∧ (running.enterEvent .cringFault 3).engine.events = [] ∧
    (running.enterEvent .cringFault 3).ccr.slots.posting.map (fun p => (p.entry.source, p.entry.detail.toNat)) =
      [(3, 0x02000000)] := by decide +kernel

/-- The control engine with its read in flight. -/
def engineReads (d : Dev) : Dev := d.setEngine { d.engine with phase := .reading, read := 15, issued := 4 }

theorem witness_ControlReadEnds :
    (engineReads running).engine.phase = .reading ∧ (engineReads running).port.part = .running ∧
    checkRecord (record [(0, 1)]) = .pass .nop ∧ checkRecord (record [(0, 1), (8, 1)]) = .fail .invalidParam ∧
    checkRecord 0 = .fail .unknownCommand ∧ (engineReads (inPart .halted)).port.part = .halted ∧
    after (fun u => u.engine.read) (.controlReadData 9 (record [(0, 1)])) (engineReads running) = some 0 ∧
    after (fun u => (u.engine.phase, u.engine.read, u.port.part)) (.controlReadError 9) (engineReads (inPart .halted)) =
      some (.reserved, 15, .halted) := by
  decide +kernel

theorem witness_ReadLimitFailsTheRead :
    Dev.readIssued (running.setPort { part := .starting, start := .reading 64 3 }) .root = some 3 ∧
    (running.setRing 2 reading).readIssued (.record 2) = some 20 ∧ (engineReads running).readIssued .control = some 4 ∧
    running.readIssued (.record 7) = none := by decide

/-- One queued entry. -/
def posting (source : EntrySource) : Posting := { entry := { kind := .control, tag := 0x01020304 }, source := source }

theorem witness_EntryWriteEnds :
    let d := running.setCcr { running.ccr with slots := { running.ccr.slots with
      producer := 15, reservations := 1, posting := [posting .inHand], stage := .writing } }
    d.port.part ≠ .resetting ∧ d.port.part ≠ .halted ∧ (d.slotsOf .ccr).stage = .writing ∧
    (d.slotsOf .ccr).posting = [posting .inHand] ∧
    after (fun u => (u.ccr.slots.producer, u.ccr.slots.reservations)) (.entryWriteEnd 5 .ccr) d = some (0, 0) := by
  decide +kernel

theorem witness_StatusWriteEnds :
    let q : StatusReq := { value := 0x0102, purpose := .plain }
    let d := (running.setField 0 { inProgress := some q }).setField 13 { inProgress := some q, waiting := [q] }
    d.port.part ≠ .resetting ∧ (d.fieldQueue 0).inProgress = some q ∧ (d.fieldQueue 13).inProgress = some q := by decide

theorem witness_PublicationReported :
    let cc : EntryRing := .ccr
    let d := running.setCcr { running.ccr with slots := { running.ccr.slots with stage := .publishing .inHand } }
    (d.port.part ≠ .halted ∧ (d.slotsOf cc).stage = .publishing .inHand) ∧ (inPart .halted).port.part = .halted ∧
    HostPort.start { part := .starting, start := .publishing (RootRecord.ofRecord rootRecord) 1 } =
      .publishing (RootRecord.ofRecord rootRecord) 1 ∧
    HostPort.start { part := .starting, start := .publishing (RootRecord.ofRecord rootRecord) 2 } =
      .publishing (RootRecord.ofRecord rootRecord) 2 ∧
    (acting running 5).engine.inHand = some 5 := by decide +kernel

/-- The done report of a head, and the report of a RING_FLUSH parked after a command whose entry is on its way. -/
theorem witness_PublicationReported_sources :
    let x := ringWith .active readRecord .valid { heldHead with state := .completing }
    let d := loaded x {}
    let two := loaded { x with staging := x.staging ++ x.staging } {}
    let flush : Parked := { record := record [(0, 5), (8, 2)], waiting := true, note := .flush 6 }
    let posted : Parked := { flush with waiting := false }
    let e := running.setEngine { running.engine with parked := [posted, flush] }
    ((d.ring 2).binding = some binding ∧ (d.ring 2).staging.tail = [] ∧ d.flushNoted 2 = none) ∧
    (two.ring 2).staging.tail ≠ [] ∧
    (posted.waiting = false ∧ flush.matchesCommand (Command.isRingFlush 2) = true ∧
      posted.matchesCommand (Command.isRingFlush 2) = false) ∧
    (e.statusReport (.flush 2 3)).engine.parked = [posted, posted] ∧
    (e.statusReport (.flush 2 3)).ccr.slots.posting.map (fun p => (p.entry.detail, p.entry.status)) = [(3, 0)] ∧
    (e.entryDone (.parked flush.record)).engine.parked = [flush] := by decide +kernel

theorem witness_EntryWriteErrorFaults :
    let d := running.setCring 1 { cr1 1 with slots := { (cr1 1).slots with
      posting := [posting .alert, posting (.transaction 2)], stage := .writing } }
    d.port.part ≠ .resetting ∧ (d.cring 1).slots.stage = .writing ∧
    after (fun u => ((u.cring 1).state, (u.cring 1).dropped)) (.entryWriteError 5 1) d = some (.faulted, 2) ∧
    d.engine.events = [] ∧ after (fun u => u.ccr.slots.posting.map fun p => (p.entry.source, p.entry.detail.toNat))
      (.entryWriteError 5 1) d = some [(1, 0x02000000)] ∧
    after (fun u => u.engine.events.map Event.repeats) (.entryWriteError 5 1) (d.setEngine { d.engine with
      events := [{ kind := .cringFault, object := 1, repeats := 7 }] }) = some [8] := by
  decide +kernel

theorem witness_WriteErrorsHalt :
    let q : StatusReq := { value := 1, purpose := .start }
    let d := (running.setCcr { running.ccr with slots := { running.ccr.slots with stage := .writing } }).setField 1
      { inProgress := some q }
    (d.port.part = .running ∧ d.ccr.slots.stage = .writing ∧ (d.fieldQueue 1).inProgress = some q) ∧
    (inPart .starting).port.part = .starting := by decide

/-- A grant for TR2 on its way. -/
def granting (void : Bool) (d : Dev) : Dev := { d with grants := [{ ring := 2, void := void }] }

theorem witness_GrantReachesTheHead :
    let asked : Head := { reservation := .requested }
    let v (x : TransRing) : Option HeadView := (granting false (loaded x (inState .sending))).headOf 2
    let valid := ringWith .active readRecord .valid asked
    let flush : Parked := { record := record [(0, 5), (8, 2)], waiting := true, note := .flush 6 }
    let flushed := (loaded valid {}).setEngine { running.engine with parked := [flush] }
    running.grants = [] ∧
    (granting true running).grants.find? (fun g => g.ring == 2) = some { ring := 2, void := true } ∧
    (granting false running).grants.find? (fun g => g.ring == 2) = some { ring := 2, void := false } ∧
    flushed.flushNoted 2 = some 6 ∧ (loaded valid {}).flushNoted 2 = none ∧
    (v valid).map (fun x => x.staged.validity) = some .valid ∧
    (v (ringWith .active readRecord (.invalid 1) asked)).map (fun x => x.staged.validity) = some (.invalid 1) ∧
    (v (ringWith .faulted readRecord .valid { asked with final := some { status := .aborted, cycle := 5, window := 1 } })).map
      (fun x => x.head.final.isSome) = some true ∧
    ((inState .sending).state ≠ .idle ∧ readRecord.passed 5 = false ∧
      (running.station 0 11).presence ≠ .quarantined) := by decide +kernel

theorem witness_CcrGrantReachesTheEngine :
    let d (post : Nat) := (running.setCcr { running.ccr with granted := true }).setEngine
      { running.engine with phase := .reserving, post := post }
    ((d 1).ccr.granted = true ∧ (d 1).engine.phase = .reserving ∧ (d 1).engine.post ≠ (d 1).engine.read) ∧
    (d 0).engine.post = (d 0).engine.read ∧ running.ccr.granted = false := by decide

/-! ## Witnesses: reports of the receiver, alerts -/

/-- A channel in AWAITING whose response window opened at moment 100. -/
def awaiting : Channel := { inState .awaiting with attempt := some { attempt with opened := 100, respWindow := some 20 } }

/-- A channel in RECEIVING with a provisional verdict and the response's end, or with the response still on the line. -/
def receiving (v : Option Verdict) (e : Option Moment) : Channel :=
  { inState .receiving with
    attempt := some { attempt with opened := 100, started := 150, provisional := v, respEnd := e }
    lineActive := v.isNone, activeSince := 150, unreported := v.isNone }

/-- A channel LISTENING in its ALERT window, with no stretch or with one on the line that has had no report. -/
def listening (stretch : Option Moment) (ended : Bool) : Channel :=
  { inState .listening with
    listening := some { window := instanceId, ended := ended, stretch := stretch }
    lineActive := stretch.isSome, activeSince := stretch.getD 0, unreported := stretch.isSome }

/-- The same, its stretch quiet and its report to come. -/
def outstanding (ended : Bool) : Channel := { listening (some 7) ended with lineActive := false }

/-- The same, its stretch on the line and its report taken. -/
def reported (ended : Bool) : Channel := { listening (some 7) ended with unreported := false }

/-- The same, its stretch counted already. -/
def counted : Channel :=
  { listening (some 7) false with listening := some { window := instanceId, ended := false, stretch := some 7, counted := true } }

/-- A part with a CHANNEL_DISABLE of CH0 parked. -/
def disabling : Dev := running.setEngine { running.engine with
  parked := [{ record := record [(0, 9)], waiting := true, note := .none }] }

/-- A channel awaiting the trailing gap of a broadcast. -/
def awaitingGap : Channel := { inState .awaiting with attempt := some { broadcast with opened := 100 } }

theorem witness_ActivityStartByState :
    ((withChan awaiting).chan 0).state = .awaiting ∧ ((withChan awaiting).tick 260).now ≤ 100 + 8 * 20 ∧
    ((withChan awaitingGap).chan 0).attempt.map Attempt.kind = some .broadcast ∧
    (receiving (some .stale) (some 300)).attempt.map (fun a => a.provisional.isSome) = some true ∧
    (listening none false).listening.map Listening.stretch = some none ∧
    ((outstanding false).listening.map (fun l => (l.stretch, l.ended)) = some (some 7, false) ∧
      (outstanding false).lineActive = false) ∧ (listening (some 7) false).lineActive = true ∧
    (outstanding true).listening.map (fun l => (l.stretch, l.ended)) = some (some 7, true) ∧
    after (fun d => (d.chan 0).state) (.lineActivityStart 260 0) (withChan awaiting) = some .receiving ∧
    after (fun d => (d.chan 0).state) (.lineActivityStart 261 0) (withChan awaiting) = some .awaiting := by decide +kernel

theorem witness_QuietByState :
    let d := (withChan (receiving (some .stale) (some 300))).tick 300
    ((inState .sending).state ≠ .receiving ∧ (inState .sending).state ≠ .listening) ∧
    ((withChan awaiting).chan 0).attempt.map Attempt.kind = some .transaction ∧
    (awaitingGap.attempt.map (fun a => (a.kind, a.opened)) = some (.broadcast, 100) ∧ ((withChan awaitingGap).tick 100).now ≤ 100 ∧
      100 < ((withChan awaitingGap).tick 101).now) ∧
    after (fun d => (d.chan 0).state) (.lineQuiet 100 0) (withChan awaitingGap) = some .awaiting ∧
    after (fun d => ((d.chan 0).state, (d.chan 0).since)) (.lineQuiet 101 0) (withChan awaitingGap) = some (.chatter, 101) ∧
    (receiving none none).attempt.map Attempt.provisional = some none ∧
    (receiving (some .garbled) none).attempt.map Attempt.respEnd = some none ∧
    (d.chan 0).attempt.map Attempt.respEnd = some (some d.now) ∧
    (listening none false).listening.map Listening.stretch = some none ∧
    ((listening (some 7) false).listening.map Listening.stretch = some (some 7) ∧ (listening (some 7) false).unreported = true) ∧
    ((reported false).listening.map (fun l => (l.stretch, l.ended)) = some (some 7, false) ∧
      (reported false).unreported = false ∧ running.port.part ≠ .halted ∧ running.disableParked 0 = false) ∧
    ((reported true).listening.map (fun l => (l.stretch, l.ended)) = some (some 7, true) ∧
      (reported true).unreported = false) ∧ (inPart .halted).port.part = .halted := by decide +kernel

/-- A response of 2 bytes from station 12. -/
def response (kind : BitVec 2) (toggle : Bool) (length : BitVec 6) (payload : List Byte) (good : Bool) : RxFrame :=
  .response 12 kind toggle length false payload good

/-- The verdict that a frame gives the response being received. -/
def verdictOf (f : RxFrame) : Option (Option Verdict) :=
  after (fun d => (d.chan 0).attempt.bind Attempt.provisional) (.frameReport 300 0 f) (withChan (receiving none none))

theorem witness_ResponseClassified :
    let c := (withChan (receiving none none)).chan 0
    c.state = .receiving ∧ c.attempt.map (fun a => (a.provisional, a.station, a.expected)) = some (none, some 11, some 2) ∧
    RxFrame.formed (.alert 62 7 8 0 0 (List.replicate 8 0) true) = true ∧
    RxFrame.formed (response 0 false 32 (List.replicate 32 0) true) = true := by decide +kernel

/-- The rows of R14 in turn, on a response to a READ of 2 bytes sent with toggle 0. -/
theorem test_response_rows :
    verdictOf (response 0 false 2 [1, 2] false) = some (some .garbled) ∧
    verdictOf (.response 13 0 false 2 false [1, 2] true) = some (some .garbled) ∧
    verdictOf (response 2 false 2 [1, 2] true) = some (some .garbled) ∧
    verdictOf (response 1 true 1 [4] true) = some (some .garbled) ∧
    verdictOf (response 0 true 2 [1, 2] true) = some (some .stale) ∧
    verdictOf (response 0 false 1 [1] true) = some (some .garbled) ∧
    verdictOf (response 0 false 2 [1, 2] true) = some (some (.validAck [1, 2])) ∧
    verdictOf (response 1 false 1 [2] true) = some (some (.validNak 2)) ∧
    verdictOf (response 2 false 1 [0] true) = some (some (.validHold 0)) := by decide +kernel

theorem witness_AlertsHeard :
    let alert : RxFrame := .alert 62 7 8 255 0 (List.replicate 8 0) true
    (listening (some 7) false).listening.isSome ∧
    (RxFrame.formed (response 0 false 0 [] true) ∧ RxFrame.validAlert (response 0 false 0 [] true) = none) ∧
    (RxFrame.formed alert ∧ stationId 62 = some 61) ∧ stationId 1 = some 0 ∧ (inState .quietWait).state = .quietWait ∧
    (listening (some 7) false).listening.map Listening.counted = some false ∧
    counted.listening.map Listening.counted = some true ∧
    ((listening (some 7) false).lineActive = true ∧ (listening (some 7) false).unreported = true) ∧
    ((outstanding false).lineActive = false ∧ (outstanding false).listening.map Listening.ended = some false ∧
      running.port.part ≠ .halted ∧ running.disableParked 0 = false) ∧
    (outstanding true).listening.map Listening.ended = some true ∧ (inPart .halted).port.part = .halted ∧
    disabling.disableParked 0 = true := by
  decide +kernel

/-- The state and the count of ALERT_GARBLED that CH0 is left with. -/
def heardOut (c : Instr) (d : Dev) : Option (ChanState × Nat) :=
  after (fun u => ((u.chan 0).state, (u.chan 0).counters.alertGarbled)) c d

/-- A halt between the quiet and the report of a stretch, with a CHANNEL_DISABLE waiting for it, and with none. -/
theorem witness_WriteErrorsHalt_channels :
    let d := disabling.setChan 0 (outstanding false)
    ((d.chan 0).state = .listening ∧ (d.chan 0).lineActive = false ∧ d.disableParked 0 = true) ∧
    (∀ ch, running.disableParked ch = false) ∧ ((withChan (inState .idle)).chan 0).state = .idle ∧
    (d.haltedBy .ccrWrite).engine.parked.map Parked.waiting = [false] ∧
    ((d.haltedBy .ccrWrite).chan 0).state = .off ∧
    (d.haltedBy .ccrWrite).ccr.slots.posting.map (fun p => (p.entry.source, p.entry.status)) = [(9, 0)] := by
  decide +kernel

/-- R114, R115: the report of a stretch that is quiet is counted, and then the listening whose window has ended is over, in
IDLE, or in OFF with a CHANNEL_DISABLE parked. Until then the quiet leaves the channel LISTENING. -/
theorem test_report_after_quiet :
    heardOut (.lineQuiet 50 0) (withChan (listening (some 7) true)) = some (.listening, 0) ∧
    heardOut (.nonFrameActivity 50 0) (withChan (outstanding true)) = some (.idle, 1) ∧
    heardOut (.nonFrameActivity 50 0) (withChan (outstanding false)) = some (.listening, 1) ∧
    heardOut (.malformedFrameReport 50 0) (disabling.setChan 0 (outstanding false)) = some (.off, 1) := by decide +kernel

/-- R112: a stretch is counted at most once, and the next stretch afresh. -/
theorem test_counted_once :
    let garbled (d : Dev) : Option Nat := after (fun u => (u.chan 0).counters.alertGarbled) (.malformedFrameReport 50 0) d
    garbled (withChan (listening (some 7) false)) = some 1 ∧ garbled (withChan counted) = some 0 ∧
    after (fun u => (u.chan 0).counters.alertGarbled) (.overlongAlertStretch 0) (withChan counted) = some 0 ∧
    after (fun u => (u.chan 0).listening.map Listening.counted) (.lineActivityStart 50 0)
      (withChan { counted with listening := counted.listening.map fun l => { l with stretch := none } }) = some (some false) := by
  decide +kernel

/-- An alert unit that passes every alert of CH0 and steers each priority to one destination. -/
def passing (dest : Destination) : AlertUnit :=
  { modes := Vector.replicate 4 .passAll, map := Vector.replicate 8 dest }

/-- An alert of station 62 at priority 7. -/
def alert : AlertFrame := { station := 61, priority := 7, code := 255, payload := [] }

theorem witness_AlertPosted :
    let d := { running.setCring 3 (cr1 0) with alert := passing (.cr 3) }
    let held := (withChan (listening (some 7) false)).setStation 0 61 { presence := .present, hold := some 9 }
    let shut := (withChan (listening (some 7) false)).setStation 0 61 { presence := .quarantined, failures := 4 }
    ((d.station 0 61).hold = none ∧ (d.station 0 61).presence ≠ .quarantined ∧ d.port.part ≠ .halted) ∧
    ((held.station 0 61).hold.isSome ∧ (held.station 0 61).presence ≠ .quarantined ∧ (held.chan 0).state ≠ .idle) ∧
    ((shut.station 0 61).hold = none ∧ (shut.station 0 61).presence = .quarantined ∧ (shut.chan 0).state ≠ .idle) ∧
    (held.hearAlert 0 instanceId { alert with code := 0 }).station 0 61 = { presence := .present } ∧
    (held.hearAlert 0 instanceId alert).station 0 61 = { presence := .present, hold := some 9 } ∧
    (shut.hearAlert 0 instanceId alert).station 0 61 = { presence := .unknown } ∧ (inPart .halted).port.part = .halted ∧
    running.alert.decide 0 alert = none ∧ (passing .discard).map[7] = .discard ∧
    (d.alert.decide 0 alert = some 7 ∧ d.alert.map[7] = .cr 3) ∧
    ((d.cring 3).state = .active ∧ (d.cring 3).lost = 0 ∧ 1 ≤ (cr1 14).room) ∧ (cr1 15).room = 0 ∧
    Cring.lost { cr1 0 with lost := 1 } ≠ 0 ∧ Cring.state { cr1 0 with state := .faulted } = .faulted ∧
    (running.cring 3).state = .disabled := by decide +kernel

theorem witness_FilterDecides :
    let e (action : FilterAction) (override : Option (Fin 8)) : FilterEntry :=
      { valid := true, channels := 0xF, code := 255, mask := 255, action := action, override := override }
    let u (mode : FilterMode) (e : FilterEntry) : AlertUnit :=
      { modes := Vector.replicate 4 mode, table := (Vector.replicate 16 {}).set 15 e }
    (passing .discard).modes[(0 : ChanId)] = .passAll ∧ running.alert.modes[(0 : ChanId)] = .dropAll ∧
    ((u .filter (e .accept (some 2))).modes[(0 : ChanId)] = .filter ∧
      (u .filter (e .accept (some 2))).table[(15 : Fin 16)].applies 0 alert = true ∧
      ∀ j : Fin 16, j < 15 → (u .filter (e .accept (some 2))).table[j].applies 0 alert = false) ∧
    ((u .filterInverse (e .reject none)).modes[(3 : ChanId)] = .filterInverse ∧
      (u .filterInverse (e .reject none)).table[(15 : Fin 16)].applies 3 alert = true) ∧
    (∀ j : Fin 16, (u .filter {}).table[j].applies 0 alert = false) := by decide +kernel

/-! ## Witnesses: the channel's timers -/

theorem witness_AttemptEnds :
    awaiting.attempt.map (fun a => (a.kind, a.respWindow)) = some (.transaction, some 20) ∧
    ((receiving (some .stale) (some 300)).attempt.map (fun a => (a.provisional, a.respEnd)) =
      some (some .stale, some 300) ∧ (receiving (some .stale) (some 300)).lineActive = false) ∧
    (awaitingGap.attempt.map Attempt.kind = some .broadcast ∧ awaitingGap.lineActive = false) ∧
    after (fun d => ((d.chan 0).state, (d.chan 0).counters.timeouts, d.now)) (.responseWindowExpiry 0)
      (loaded (ringWith .active readRecord .valid lineHead) awaiting) = some (.quietWait, 1, 260) := by decide +kernel

/-- A channel in QUIET_WAIT since moment 10 with a selection, the line quiet since 0. -/
def quietWait (s : Option Selection) : Channel := { inState .quietWait with since := 10, selection := s }

/-- A broadcast WRITE of no bytes. -/
def broadcastRecord : TransRecord := { readRecord with operation := 1, station := 0, length := 0 }

theorem witness_QuietFoundSends :
    let c := quietWait (some (.transaction 2 0))
    let d := (loaded (ringWith .active readRecord .valid heldHead) c).tick 128
    let b := (loaded (ringWith .active broadcastRecord .valid heldHead) c).tick 128
    let gone := (loaded (ringWith .stopped readRecord .valid heldHead) c).tick 128
    (c.state = .quietWait ∧ c.lineActive = false ∧ max c.since (c.lastQuiet + c.gap * c.rate.bit) = 128 ∧
      128 ≤ c.since + 8 * c.quietLimit ∧ c.window = some transactWindow) ∧
    ((d.headOf 2).map (fun v => (v.staged.slot, v.station)) = some (0, some 11) ∧ d.candidate 0 transactWindow 2 = true) ∧
    ((b.headOf 2).map (fun v => (v.staged.slot, v.station)) = some (0, none) ∧ b.candidate 0 transactWindow 2 = true) ∧
    ((quietWait (some (.call instanceId))).selection = some (.call instanceId) ∧
      ({ transactWindow with kind := .alert } : WindowRec).kind = .alert ∧ transactWindow.cycle = instanceId.cycle ∧
      transactWindow.index = instanceId.index ∧ transactWindow.kind ≠ .alert) ∧
    (gone.candidate 0 transactWindow 2 = false ∧ (running.headOf 2).isNone) ∧ (quietWait (some .left)).selection = some .left ∧
    after (fun d => ((d.chan 0).state, (d.chan 0).sendEnds)) (.quietFound 0) (loaded (ringWith .active readRecord .valid
      heldHead) c) = some (.sending, 128 + 64 * 8) := by decide +kernel

/-- A channel in CHATTER since moment 10. -/
def chatter (active : Bool) (last : Moment) (a : Option Attempt) : Channel :=
  { inState .chatter with since := 10, lineActive := active, lastQuiet := last, attempt := a }

theorem witness_ChatterEnds :
    let due := (chatter false 0 none).since + 8 * (chatter false 0 none).chatterLimit
    let quiet (last : Moment) := max 10 (last + 16 * 8)
    (due = 16010 ∧ quiet 15882 = due ∧ quiet 15883 = due + 1 ∧ quiet 15881 < due) ∧
    (chatter false 15882 (some attempt)).attempt.isSome ∧ (chatter false 15882 none).attempt = none ∧
    (chatter true 0 (some attempt)).lineActive = true ∧
    (running.port.part ≠ .halted ∧ (withChan (chatter true 0 none)).disableParked 0 = false) ∧
    after (fun d => (d.chan 0).state) (.chatterLimitExpiry 0) (withChan (chatter true 0 none)) = some .stuck := by
  decide +kernel

theorem witness_QuietWaitLimitSticks :
    let c := quietWait (some (.transaction 2 0))
    let d := loaded (ringWith .active readRecord .valid heldHead) { c with lineActive := true }
    (max 10 (1482 + 16 * 8) = 10 + 8 * 200 ∧ ({ c with lineActive := true } : Channel).lineActive = true) ∧
    (d.headOf 2).map (fun v => (v.staged.slot, v.head.waiting)) = some (0, true) ∧
    (∀ r slot, (quietWait (some (.call instanceId))).selection = some (.transaction r slot) → running.headOf r = none) ∧
    running.port.part ≠ .halted ∧ (withChan c).disableParked 0 = false := by
  refine ⟨by decide, by decide +kernel, fun r slot h => (by cases h), by decide, by decide⟩

theorem witness_OverlongActivityChatters :
    (receiving (some .garbled) none).lineActive = false ∧
    ((receiving none none).attempt.map Attempt.provisional = some none ∧ (receiving none none).lineActive = true) ∧
    ((listening (some 7) false).listening.map (fun l => (l.stretch, l.counted)) = some (some 7, false) ∧
      (listening (some 7) false).lineActive = true) ∧ counted.lineActive = true ∧
    counted.listening.map (fun l => (l.stretch, l.counted)) = some (some 7, true) ∧
    after (fun d => ((d.chan 0).state, d.now)) (.overlongResponse 0) (withChan (receiving none none)) =
      some (.chatter, 150 + (304 + 16) * 8) ∧
    after (fun d => ((d.chan 0).state, d.now)) (.overlongResponse 0)
      (withChan { receiving none none with lineActive := false }) = some (.receiving, 0) := by decide +kernel

/-- A channel SENDING a frame that ends at moment 640. -/
def sending (a : Attempt) : Channel := { inState .sending with attempt := some a, sendEnds := 640 }

theorem witness_FrameSentReleases :
    (sending attempt).attempt.map (fun a => (a.kind, a.station)) = some (.transaction, some 11) ∧
    ((sending broadcast).attempt.map (fun a => (a.kind, a.station)) = some (.broadcast, none) ∧
      (sending broadcast).lineActive = false) ∧ ({ sending broadcast with lineActive := true } : Channel).lineActive = true ∧
    after (fun d => ((d.chan 0).state, (d.chan 0).since)) (.frameSent 0)
      (withChan { sending broadcast with lineActive := true }) = some (.chatter, 640) ∧
    ((sending call).attempt.map Attempt.kind = some .call ∧ (withChan (sending call)).disableParked 0 = false ∧
      running.port.part ≠ .halted ∧ (sending call).window = some transactWindow ∧
      transactWindow.cycle = call.window.cycle ∧ transactWindow.index = call.window.index ∧ 640 < call.window.ends) ∧
    after (fun d => ((d.chan 0).state, (d.chan 0).listening.bind Listening.stretch)) (.frameSent 0)
      (withChan { sending call with lineActive := true, activeSince := 600 }) = some (.listening, some 600) ∧
    8000 ≤ Channel.sendEnds { sending call with sendEnds := 8000 } ∧ transactWindow.index ≠ 2 := by decide +kernel

/-! ## Witnesses: the schedule -/

/-- A SCHEDULE_COMMIT of one window on CH0 with switch cycle 6, parked. -/
def parkedCommit : Parked := { record := record [(0, 12), (9, 1), (12, 6)], waiting := true, note := .commit false }

theorem witness_CycleStartAdvances :
    let c := inState .sending
    let next (k : List Parked) (cycle : Cycle) : Dev :=
      (withChan { c with cycle := cycle }).setEngine { running.engine with parked := k }
    (inState .off).state = .off ∧ c.state ≠ .off ∧ (next [] 6).dueCommit 0 = none ∧
    (next [parkedCommit] 6).dueCommit 0 = some (1, false) ∧ (next [parkedCommit] 5).dueCommit 0 = none ∧
    (c.operational = windows ∧ running.port.part ≠ .halted) := by decide +kernel

/-- A head to station 12 with a deadline, its reservation held, on a channel SENDING in cycle 5, with two holds. -/
def dueHead (deadline : Cycle) : Dev :=
  ((loaded (ringWith .active { readRecord with deadlineFlag := true, deadline := deadline } .valid heldHead)
    (inState .sending)).setStation 0 20 { presence := .present, hold := some 6 }).setStation 0 61
      { presence := .present, hold := some 7 }

/-- R26, R88: at the start of cycle 6 the hold to 6 is removed and the hold to 7 stays, the deadline 5 has passed and the
deadline 6 has not. -/
theorem test_cycle_start :
    let holds (d : Dev) := after (fun u => ((u.station 0 20).hold, (u.station 0 61).hold)) (.cycleStart 0) d
    let waits (d : Dev) := after (fun u => (u.headOf 2).map fun v => v.head.waiting) (.cycleStart 0) d
    holds (dueHead 5) = some (none, some 7) ∧ waits (dueHead 5) = some (some false) ∧ waits (dueHead 6) = some (some true) := by
  decide +kernel

theorem witness_WindowStartByState :
    let c := inState .idle
    let last : WindowRec := { transactWindow with index := 2 }
    let before : WindowRec := { transactWindow with index := 0 }
    (c.state ≠ .off ∧ c.window = some transactWindow) ∧ c.operational.length ≤ last.index + 1 ∧
    c.operational[before.index + 1]?.map Window.kind = some .transact ∧
    c.operational[transactWindow.index + 1]?.map Window.kind = some .quiet ∧
    (Channel.operational { c with operational := windows.reverse })[2]?.map Window.kind = some .alert ∧
    ((listening none false).listening.map Listening.stretch = some none ∧ (listening none false).lineActive = false) ∧
    (listening (some 7) false).lineActive = true ∧ ((outstanding false).listening.map Listening.stretch = some (some 7)) := by
  decide +kernel

theorem witness_ExpiriesOfACycle :
    let held (e : Cycle) : StationRec := { presence := .present, hold := some e }
    let late : TransRecord := { readRecord with deadlineFlag := true, deadline := 4 }
    let d (h : Head) (t : TransRecord) := loaded (ringWith .active t .valid h) (inState .sending)
    ((held 5).presence ≠ .quarantined ∧ Cycle.after 5 (inState .idle).cycle = false ∧
      Cycle.after 6 (inState .idle).cycle = true) ∧
    StationRec.hold {} = none ∧ ((d heldHead late).headOf 2).isSome ∧ (inState .sending).state ≠ .off ∧
    (heldHead.waiting = true ∧ late.deadlineFlag = true ∧ Cycle.before late.deadline 5 = true) ∧
    lineHead.waiting = false ∧ Cycle.before 5 5 = false ∧
    (((d heldHead late).setRing 2 (ringWith .stopped late .valid heldHead)).ring 2).state = .stopped := by decide +kernel

/-! ## Witnesses: control commands -/

/-- The control engine that holds a record which names a command is taking it. -/
theorem taking (d : Dev) (r : Record) (c : Command) (h : checkRecord r = .pass c) : (acting d r).Taking r c :=
  ⟨rfl, rfl, rfl, h⟩

/-- The command named by the given bytes: the first is its code. -/
def names (fields : List (Nat × Nat)) (c : Command) : Prop := checkRecord (record fields) = .pass c

theorem witness_ReadingCommandsAnswer :
    names [(0, 1)] .nop ∧ names [(0, 15), (8, 3), (9, 62)] (.stationRead 3 61) ∧
    names [(0, 21), (8, 3), (9, 1)] (.countersRead 3 true) ∧ names [(0, 21)] (.countersRead 0 false) := by
  unfold names; decide +kernel

theorem witness_AlertCommandsWrite :
    names [(0, 17), (8, 15), (9, 3), (10, 0xF), (11, 62), (12, 255), (13, 1), (14, 1), (15, 7)] (.filterWrite 15
      { valid := true, channels := 0xF, station := 62, code := 255, mask := 1, action := .accept, override := some 7 }) ∧
    names [(0, 17), (8, 0)] (.filterWrite 0 {}) ∧
    names [(0, 18), (8, 0x8000000000000001)] (.filterBins 0x8000000000000001) ∧
    names [(0, 19), (8, 3), (9, 4)] (.filterMode 3 .filterInverse) ∧
    names [(0, 20), (8, 4), (9, 3)] (.alertMap #v[.discard, .cr 3, .cr 0, .cr 0, .cr 0, .cr 0, .cr 0, .cr 0]) := by
  unfold names; decide +kernel

theorem witness_SetupCommandsWrite :
    let flush : Parked := { record := record [(0, 5), (8, 2)], waiting := true, note := .flush 6 }
    names [(0, 2), (8, 7), (9, 3), (10, 7), (11, 3), (12, 4096), (16, 0x50000)]
      (.ringSetup 7 0x50000 { size := 4096, channel := 3, cls := 7, cring := 3 }) ∧
    names [(0, 6), (8, 3), (12, 8), (16, 0x40000)] (.cringSetup 3 0x40000 8) ∧
    Dev.flushing (running.setEngine { running.engine with parked := [flush] }) 2 = true ∧ running.flushing 2 = false ∧
    (running.ring 7).state = .disabled ∧ (ringWith .stopped readRecord .valid {}).staging ≠ [] ∧
    (running.cring 3).state = .disabled ∧ (cr1 1).state = .active := by
  unfold names; decide +kernel

theorem witness_RingStartActivates :
    let stopped := running.setRing 2 { (ringWith .stopped readRecord .valid {}) with staging := [], head := none }
    names [(0, 3), (8, 2)] (.ringStart 2) ∧ names [(0, 3), (8, 7)] (.ringStart 7) ∧
    (stopped.flushing 2 = false ∧ (stopped.ring 2).state = .stopped ∧ (stopped.ring 2).head = none ∧
      (stopped.ring 2).fetch = (stopped.ring 2).post) ∧ (running.ring 2).state ≠ .stopped := by
  unfold names; decide +kernel

theorem witness_RingStopByState :
    let parked := running.setEngine { running.engine with
      parked := [{ record := record [(0, 4), (8, 2)], waiting := true, note := .none }] }
    names [(0, 4), (8, 2)] (.ringStop 2) ∧
    (ringWith .active readRecord .valid lineHead).quiet = false ∧ reading.reading.isSome ∧
    ((ringWith .active readRecord .valid heldHead).quiet = true ∧
      (ringWith .active readRecord .valid heldHead).reading = none ∧
      (ringWith .active readRecord .valid heldHead).binding ≠ none) ∧
    parked.hasParked (Command.isRingStop 2) = true ∧ running.hasParked (Command.isRingStop 2) = false ∧
    (ringWith .faulted readRecord .valid heldHead).staging ≠ [] ∧ TransRing.staging { state := .faulted } = [] := by
  unfold names; decide +kernel

theorem witness_RingFlushByState :
    let x := ringWith .stopped readRecord .valid {}
    names [(0, 5), (8, 2)] (.ringFlush 2) ∧ running.flushing 2 = false ∧ (running.ring 2).state ≠ .stopped ∧
    ({ x with staging := [], head := none } : TransRing).fetch = x.post ∧
    (({ x with staging := [], head := none, post := 7 } : TransRing).fetch ≠ 7 ∧ x.binding = some binding) ∧
    x.staging ≠ [] := by
  unfold names; decide +kernel

theorem witness_ConfigAndEnable :
    names [(0, 7), (8, 3), (9, 8), (10, 63), (12, 10), (14, 100)] (.channelConfig 3 .r8 63 10 100) ∧
    names [(0, 8)] (.channelEnable 0 none) ∧
    names [(0, 8), (9, 1), (12, 0xFFFFFFFF)] (.channelEnable 0 (some 0xFFFFFFFF)) ∧
    ((inState .off).state = .off ∧ (inState .off).operational ≠ [] ∧ running.port.part ≠ .halted) ∧
    (inState .stuck).state ≠ .off ∧ (running.chan 0).operational = [] := by
  unfold names; decide +kernel

/-- A CHANNEL_ENABLE of CH0 with tag 0x77 and first cycle 6. -/
def enable : Record := record [(0, 8), (4, 0x77), (9, 1), (12, 6)]

/-- The control engine taking it, CH0 in OFF with one pending slot. -/
def enabling : Dev :=
  acting (withChan { inState .off with
    slots := (Vector.replicate 32 none).set 0 (some { duration := 20, kind := .quiet, classes := 0 }) }) enable

/-- The channel after the enable: its state, number and list length. -/
def enabled (d : Dev) : Option (ChanState × Cycle × Nat) :=
  after (fun u => ((u.chan 0).state, (u.chan 0).cycle, (u.chan 0).operational.length)) (.channelEnable 40) d

/-- The tags of the entries queued at the CCR after the enable. -/
def answers (d : Dev) : Option (List Nat) :=
  after (fun u => u.ccr.slots.posting.map fun p => p.entry.tag.toNat) (.channelEnable 40) d

/-- The same with a commit parked. -/
def enablingDue : Dev := enabling.setEngine { enabling.engine with parked := [parkedCommit] }

/-- The same while HALTED. -/
def enablingHalted : Dev := enabling.setPort { enabling.port with part := .halted }

/-- CHANNEL_ENABLE in OFF: with nothing parked, with a due commit parked, while HALTED. -/
theorem witness_ConfigAndEnable_cases : checkRecord enable = .pass (.channelEnable 0 (some 6)) ∧ enabling.dueCommit 0 = none ∧
    (enablingDue.setChan 0 { enabling.chan 0 with cycle := 6 }).dueCommit 0 = some (1, false) ∧ enablingHalted.port.part = .halted := by
  decide +kernel

/-- R44, R53, R60: the due commit swaps and is answered before the enable. -/
theorem test_enable :
    enabled enabling = some (.quietWait, 6, 3) ∧ answers enabling = some [0x77] ∧
    enabled enablingDue = some (.idle, 6, 1) ∧ answers enablingDue = some [0, 0x77] ∧
    enabled enablingHalted = some (.off, 6, 3) ∧ answers enablingHalted = some [0x77] := by decide +kernel

/-- Records whose CONTROL entry names a station, a channel or neither. -/
theorem witness_ConfigAndEnable_entries :
    commandOf (record [(0, 14), (9, 62), (10, 2), (13, 1), (14, 1)]) = some (.stationSet 0 61
      { respWindow := 2, retryLimit := 0, holdLimit := 0, failLimit := 1, quarantined := false }) ∧
    commandOf (record [(0, 13)]) = some (.scheduleCancel 0) ∧ commandOf (record [(0, 3)]) = some (.ringStart 0) ∧
    (running.chan 0).state = .off ∧ ((withChan (inState .idle)).chan 0).window = some transactWindow := by decide +kernel

theorem witness_DisableByState :
    names [(0, 9)] (.channelDisable 0) ∧ names [(0, 9), (8, 3)] (.channelDisable 3) ∧
    disabling.disableParked 0 = true ∧ running.disableParked 0 = false ∧
    (outstanding false).lineActive = false ∧ (listening (some 7) false).lineActive = true := by
  unfold names; decide +kernel

theorem witness_ChannelResetAbandons : names [(0, 10)] (.channelReset 0) ∧ names [(0, 10), (8, 3)] (.channelReset 3) := by
  unfold names; decide +kernel

theorem witness_ScheduleCommands :
    let filled : Channel := { inState .off with slots := (Vector.replicate 32 none).set 0 (some { duration := 10, kind := .quiet, classes := 0 }) }
    names [(0, 11), (9, 31), (10, 1), (12, 65535), (14, 3)] (.scheduleWrite 0 31
      [{ duration := 65535, kind := .quiet, classes := 0 }]) ∧
    names [(0, 12), (9, 32), (12, 7)] (.scheduleCommit 0 32 7) ∧ names [(0, 12), (9, 1), (12, 6)] (.scheduleCommit 0 1 6) ∧
    names [(0, 13)] (.scheduleCancel 0) ∧
    ((filled.slots.toList.take 1).all Option.isSome = true ∧ (filled.slots.toList.take 2).all Option.isSome = false) ∧
    Dev.hasParked (running.setEngine { running.engine with parked := [parkedCommit] }) (Command.isCommit 0) = true ∧
    running.hasParked (Command.isCommit 0) = false := by
  unfold names; decide +kernel

theorem witness_StationCommands :
    let setting : StationSetting :=
      { respWindow := 255, retryLimit := 7, holdLimit := 15, failLimit := 15, quarantined := false }
    let parked := running.setEngine { running.engine with parked := [
      { record := record [(0, 14), (9, 62), (10, 255), (11, 7), (12, 15), (13, 15), (14, 1)], waiting := true, note := .none },
      { record := record [(0, 16), (9, 62)], waiting := true, note := .none }] }
    names [(0, 14), (9, 62), (10, 255), (11, 7), (12, 15), (13, 15), (14, 1)] (.stationSet 0 61 setting) ∧
    names [(0, 14), (9, 1), (10, 2), (13, 1), (14, 3)] (.stationSet 0 0
      { respWindow := 2, retryLimit := 0, holdLimit := 0, failLimit := 1, quarantined := true }) ∧
    names [(0, 16), (9, 62)] (.stationRelease 0 61) ∧
    parked.hasParked (Command.isStationSet 0 61) = true ∧ parked.hasParked (Command.isStationRelease 0 61) = true ∧
    running.hasParked (Command.isStationSet 0 61) = false ∧ StationRec.mark { mark := true } = true ∧
    ((running.station 0 61).mark = false ∧ setting.quarantined = false ∧ (running.chan 0).state ≠ .idle) := by
  unfold names; decide +kernel

/-! ## Witnesses: tables and invariants -/

theorem witness_StationVerdicts :
    let r : StationRec := { presence := .quarantined }
    (0 : Byte) = 0 ∧ (255 : Byte) ≠ 0 ∧ r.presence = .quarantined ∧ StationRec.presence {} ≠ .quarantined := by decide

theorem witness_HeadVerdicts :
    let h : Head := { lineHead with attempts := 3, holds := 2 }
    h.retryLimit = some 2 ∧ h.holdLimit = some 3 ∧ ¬ (3 < h.holds + 1) ∧ 3 < Head.holds { h with holds := 3 } + 1 ∧
    ¬ ((h.afterVerdict .none).attempts ≠ 2 + 1 ∧ false = false) ∧
    ((({ h with attempts := 2 } : Head).afterVerdict .none).attempts ≠ 2 + 1 ∧ false = false) := by decide

/-- A head's verdict with and without a fate, and its final status with and without its reservation, its completion ring
ACTIVE and FAULTED. -/
theorem witness_HeadVerdicts_device :
    let d := (loaded (ringWith .active readRecord .valid lineHead) (inState .awaiting)).setStation 0 11 { presence := .present }
    let faulted := d.setCring 1 { cr1 1 with state := .faulted }
    let expired : Final := { status := .expired, cycle := 5, window := 1 }
    let entries (d : Dev) := (d.cring 1).slots.posting.map fun p => (p.entry.status, p.entry.attempts, p.entry.presence)
    ((d.headOf 2).isSome ∧ (d.ring 2).state ≠ .stopping) ∧
    headFate (lineHead.afterVerdict .none) .none false false false = none ∧
    headFate (lineHead.afterVerdict .none) .none true false false = some (.timeout, 0, []) ∧
    ((d.headVerdict 2 .none false false).ring 2).head.map (fun h => (h.state, h.lastFailure)) =
      some (.pendingRetry, some .none) ∧
    entries (d.headVerdict 2 .none true false) = [(2, 1, 1)] ∧
    (lineHead.reservation = .held ∧ ({ lineHead with reservation := .requested } : Head).reservation ≠ .held) ∧
    ((d.cring 1).state = .active ∧ (faulted.cring 1).state = .faulted) ∧ entries (d.assignFinal 2 expired) = [(6, 1, 1)] ∧
    ((faulted.assignFinal 2 expired).cring 1).dropped = 1 ∧ ((faulted.assignFinal 2 expired).ring 2).consumer = 1 := by
  decide +kernel

/-- The largest needed time of R17's text. -/
theorem witness_NeededTimeIsExact : (rated .r1 63).gap ≤ 63 ∧ (asks 2 9 32).length ≤ 32 ∧ 255 ≤ 255 ∧
    neededTime (rated .r1 63) (asks 2 9 32) (some 255) = 8 * 942 := by decide +kernel

theorem witness_OverrunAccounted :
    let c : Channel := { inState .sending with activity := some { ownEnd := 8000, crossed := [8080, 8160] } }
    let lost (m : Moment) := ((c.account m).counters.overruns, (c.account m).counters.windowsLost)
    c.activity = some { ownEnd := 8000, crossed := [8080, 8160] } ∧ (8000 : Moment) ≤ 8000 ∧ (8000 : Moment) < 8001 ∧
    lost 8000 = (0, 0) ∧ lost 8001 = (1, 0) ∧ lost 8080 = (1, 0) ∧ lost 8081 = (1, 1) ∧ lost 8161 = (1, 2) := by
  decide

theorem witness_ArbitrationPicks :
    let d := loaded (ringWith .active readRecord .valid heldHead) (inState .idle)
    let expired := loaded (ringWith .active { readRecord with deadlineFlag := true, deadline := 4 } .valid heldHead) (inState .idle)
    ((d.chan 0).window = some transactWindow ∧ transactWindow.kind = .transact ∧ d.port.part ≠ .halted ∧
      (d.checkDeadlines 0).select 0 transactWindow = some 2 ∧ ((d.checkDeadlines 0).headOf 2).isSome) ∧
    ((expired.chan 0).window = some transactWindow ∧ (expired.checkDeadlines 0).select 0 transactWindow = none) ∧
    ((withChan { inState .idle with window := some { transactWindow with kind := .quiet } }).chan 0).window.map
      WindowRec.kind = some .quiet ∧ (running.chan 0).state ≠ .idle ∧
    (((d.arbitrate 0).chan 0).state, ((d.arbitrate 0).chan 0).selection) = (.quietWait, some (.transaction 2 0)) ∧
    ((expired.arbitrate 0).chan 0).state = .idle ∧
    d.select 0 transactWindow = some 2 ∧ d.candidate 0 transactWindow 2 = true ∧ running.select 0 transactWindow = none ∧
    d.candidate 0 { transactWindow with classes := 0xF7 } 2 = false ∧ (d.setStation 0 11 { hold := some 9 }).candidate 0
      transactWindow 2 = false ∧ (d.tick 6689).candidate 0 transactWindow 2 = false ∧
      (d.tick 6688).candidate 0 transactWindow 2 = true := by
  decide +kernel

/-- A queue with a window start of CH0 in front. -/
def starts (d : Dev) : State := (at_ d).front (.windowStart 0)

theorem witness_HeldStationsAreNotQuarantined :
    let d := running.setStation 0 61 { presence := .present, hold := some 9 }
    (∀ ch st, (d.station ch st).hold.isSome → (d.station ch st).presence ≠ .quarantined) ∧
    (d.station 0 61).hold = some 9 ∧ ∃ t, step (starts d) = .next t :=
  ⟨by decide +kernel, by decide +kernel, _, rfl⟩

theorem witness_StagingStaysBounded :
    let d := running.setRing 2
      { reading with staging := List.replicate 3 { slot := 0, record := readRecord, validity := .valid } }
    (∀ r, (d.ring r).staging.length + (if (d.ring r).reading.isSome then 1 else 0) ≤ Config.stagingLimit) ∧
    (d.ring 2).staging.length + 1 = Config.stagingLimit ∧ ∃ t, step (starts d) = .next t :=
  ⟨by decide +kernel, by decide +kernel, _, rfl⟩

theorem witness_EngineKeepsItsBounds :
    let e : Engine := { running.engine with
      parked := List.replicate 8 { record := 0, waiting := true, note := .none }
      events := [{ kind := .ringFault, object := 1, repeats := 0 }, { kind := .ringFault, object := 2, repeats := 9 }] }
    (e.parked.length + (if e.phase = .idle then 0 else 1) ≤ Config.parkedLimit ∧ (e.inHand.isSome → e.phase ≠ .idle)) ∧
    (e.events.Pairwise fun a b => ¬ a.same b.kind b.object) ∧ ∃ t, step (starts (running.setEngine e)) = .next t :=
  ⟨by decide +kernel, by decide +kernel, _, rfl⟩

theorem witness_SendingFollowsQuietWait :
    let d := loaded (ringWith .active readRecord .valid heldHead) (quietWait (some (.transaction 2 0)))
    (d.chan 0).state = .quietWait ∧
    after (fun u => (u.chan 0).state) (.quietFound 0) d = some .sending := by decide +kernel

theorem witness_HaltedStuckAndOffLast :
    let d := (withChan (inState .stuck)).setPort { part := .halted, haltCause := .ccrWrite }
    (Instr.nop 0).mayReset = false ∧ (d.port.part = .halted ∧ d.port.start = .none) ∧ (d.chan 0).state = .stuck ∧
    (d.chan 1).state = .off ∧ after (fun u => (u.port.haltCause, (u.chan 0).state)) (.windowStart 0) d =
      some (.ccrWrite, .stuck) := by decide +kernel

theorem witness_MemoryStaysCanonical :
    Memory.wf (at_ running).mem ∧ (∀ m ring rest, (at_ running).pending ≠ .entryWriteEnd m ring :: rest) ∧
    (∀ m f rest, (at_ running).pending ≠ .statusWriteEnd m f :: rest) :=
  ⟨List.Pairwise.nil, nofun, nofun⟩

/-! ## One step of the spec's worked sequences -/

/-- 3.7 just before 2140 µs: CH0 in CHATTER since 140 µs, the attempt to station 12 provisionally GARBLED. -/
def chatterExample : Dev :=
  (loaded (ringWith .active readRecord .valid lineHead) { chatter true 0 (some { attempt with
    resync := false, provisional := some .garbled }) with since := 8 * 140 }).setStation 0 11
      { presence := .present, mark := true }

/-- 3.7 at 2140 µs: the chatter limit expires with the line still active. -/
theorem test_chatter_example :
    after (fun u => ((u.chan 0).state, u.now)) (.chatterLimitExpiry 0) chatterExample = some (.stuck, 8 * 2140) ∧
    after (fun u => u.station 0 11) (.chatterLimitExpiry 0) chatterExample =
      some { presence := .unknown, failures := 1 } ∧
    after (fun u => (u.cring 1).slots.posting.map fun p => (p.entry.status, p.entry.attempts)) (.chatterLimitExpiry 0)
      chatterExample = some [(8, 1)] := by decide +kernel

end Sys2Proof.Tests
end

section
/-! PROOFS. The verdict of a response (R14): what each of the receiver's three reports does to a channel in RECEIVING whose
attempt has no verdict yet, and `classify` read as the table of R14. -/

namespace Sys2Proof.Machine

/-! ## Reports in RECEIVING -/

/-- A second update of a channel replaces the first. -/
@[simp] theorem Dev.setChan_setChan (d : Dev) (ch : ChanId) (c e : Channel) :
    (d.setChan ch c).setChan ch e = d.setChan ch e := by
  simp [Dev.setChan]

/-- Only a LISTENING channel hears a stretch that can be over. -/
theorem Dev.stretchOver_of_state_ne {d : Dev} {ch : ChanId} (h : (d.chan ch).state ≠ .listening) :
    d.stretchOver ch = d := by
  obtain ⟨same, -⟩ | ⟨l, listening, -⟩ := d.stretchOver_cases ch
  · exact same
  · exact absurd listening h

@[simp] theorem Channel.endResponse_state (c : Channel) (v : Verdict) (e : Option Moment) :
    (c.endResponse v e).state = c.state := rfl

/-- The report that ends a response notes itself for the stretch and leaves the verdict in the attempt record. -/
theorem Channel.report_endResponse {c : Channel} {a : Attempt} (attempt : c.attempt = some a) (v : Verdict)
    (e : Option Moment) :
    c.report.endResponse v e =
      { c with unreported := false, attempt := some { a with provisional := some v, respEnd := e } } := by
  simp [Channel.endResponse, Channel.report, attempt]

/-- A report that garbles ends the response that is being received, as GARBLED (R14, row 1). -/
theorem Channel.garbledReport_of_receiving {c : Channel} {a : Attempt} (receiving : c.state = .receiving)
    (attempt : c.attempt = some a) (unjudged : a.provisional = none) (e : Option Moment) :
    c.garbledReport e = c.endResponse .garbled e := by
  simp [Channel.garbledReport, receiving, attempt, unjudged]

section Receiving

variable {d : Dev} {ch : ChanId} {a : Attempt} (receiving : (d.chan ch).state = .receiving)
  (attempt : (d.chan ch).attempt = some a) (unjudged : a.provisional = none)
include receiving attempt unjudged

/-- A garbling report in RECEIVING ends the response and nothing more: there is no stretch to judge. -/
theorem Dev.garbledReport_of_receiving (e : Option Moment) :
    (d.modChan ch fun c => c.report.garbledReport e).stretchOver ch =
      d.setChan ch ((d.chan ch).report.endResponse .garbled e) := by
  have ends : (d.chan ch).report.garbledReport e = (d.chan ch).report.endResponse .garbled e :=
    Channel.garbledReport_of_receiving (by simpa using receiving) (by simpa using attempt) unjudged e
  rw [Dev.modChan, ends]
  exact Dev.stretchOver_of_state_ne (by simp [receiving])

theorem Dev.malformed_of_receiving :
    d.malformed ch = d.setChan ch ((d.chan ch).report.endResponse .garbled (some d.now)) :=
  Dev.garbledReport_of_receiving receiving attempt unjudged _

theorem Dev.nonFrame_of_receiving :
    d.nonFrame ch = d.setChan ch ((d.chan ch).report.endResponse .garbled
      (if (d.chan ch).lineActive then none else some (d.chan ch).lastQuiet)) :=
  Dev.garbledReport_of_receiving receiving attempt unjudged _

/-- A whole frame in RECEIVING ends the response with its classification. -/
theorem Dev.frame_of_receiving {f : RxFrame} (formed : RxFrame.formed f = true) :
    d.frame ch f = d.setChan ch ((d.chan ch).report.endResponse (classify a f) (some d.now)) := by
  simp [Dev.frame, formed, Dev.modChan, receiving, attempt, unjudged]

end Receiving

/-! ## The table of R14 -/

/-- A response that the receiver reports whole has a defined kind, and that is ACK, NAK or HOLD (R8). -/
theorem kind_ne_zero_iff_of_formed {address : BitVec 6} {kind : BitVec 2} {toggle : Bool} {length : BitVec 6}
    {spare : Bool} {payload : List Byte} {good : Bool}
    (formed : RxFrame.formed (.response address kind toggle length spare payload good) = true) :
    kind ≠ 0 ↔ kind = 1 ∨ kind = 2 := by
  simp only [RxFrame.formed, Bool.and_eq_true, decide_eq_true_eq] at formed
  obtain ⟨⟨defined, -⟩, -⟩ := formed
  bv_omega

/-- The reason 4 that `headD` reads is a byte of the payload, and not the default of an empty one. -/
theorem headD_eq_four_iff (payload : List Byte) : payload.headD 0 = 4 ↔ payload.head? = some 4 := by
  cases payload with
  | nil => decide
  | cons b rest => simp

/-- The rows of R14 for a response frame, on an attempt to a station that is answered. -/
theorem classify_response {a : Attempt} {st : StationId} {expected : Nat} (station : a.station = some st)
    (expects : a.expected = some expected) {address : BitVec 6} {kind : BitVec 2} {toggle : Bool} {length : BitVec 6}
    {spare : Bool} {payload : List Byte} {good : Bool}
    (formed : RxFrame.formed (.response address kind toggle length spare payload good) = true) :
    classify a (.response address kind toggle length spare payload good) =
      if good = false then .garbled
      else if address.toNat ≠ st.val + 1 then .garbled
      else if (kind = 1 ∨ kind = 2) ∧ length.toNat ≠ 1 then .garbled
      else if kind = 1 ∧ payload.head? = some 4 then .garbled
      else if toggle ≠ a.toggle then .stale
      else if kind = 0 ∧ length.toNat ≠ expected then .garbled
      else if kind = 0 then .validAck payload
      else if kind = 1 then .validNak (payload.headD 0)
      else .validHold (payload.headD 0) := by
  have badCheck : ¬ good = true ↔ good = false := by simp
  have otherStation : a.station.map stationAddress ≠ some address.toNat ↔ address.toNat ≠ st.val + 1 := by
    simp [station, stationAddress, eq_comm]
  have badLength : kind ≠ 0 ∧ length ≠ 1 ↔ (kind = 1 ∨ kind = 2) ∧ length.toNat ≠ 1 := by
    rw [kind_ne_zero_iff_of_formed formed]
    exact and_congr_right fun _ => by bv_omega
  have otherLength : a.expected ≠ some length.toNat ↔ length.toNat ≠ expected := by
    simp [expects, eq_comm]
  simp only [classify, badCheck, otherStation, badLength, headD_eq_four_iff, otherLength]

/-! ## The statement -/

theorem Becomes.of_eq {i : Instr} {s : State} {d e : Dev} (h : Becomes i s d) (same : d = e) : Becomes i s e :=
  same ▸ h

theorem becomes_malformedFrameReport (t : Moment) (ch : ChanId) (s : State) :
    Becomes (.malformedFrameReport t ch) s ((s.dev.tick t).malformed ch) := rfl

theorem becomes_nonFrameActivity (t : Moment) (ch : ChanId) (s : State) :
    Becomes (.nonFrameActivity t ch) s ((s.dev.tick t).nonFrame ch) := rfl

theorem becomes_frameReport (t : Moment) (ch : ChanId) (f : RxFrame) (s : State) :
    Becomes (.frameReport t ch f) s ((s.dev.tick t).frame ch f) := rfl

/-- Settles O25: each report becomes the end of the response with a verdict, which for a response frame is a row of R14. -/
theorem responseClassified : Obligations.ResponseClassified := by
  intro t ch s a st expected d c judged receiving attempt unjudged station expects
  have ended (v : Verdict) (e : Option Moment) : d.setChan ch (c.report.endResponse v e) = judged v e :=
    congrArg (d.setChan ch) (Channel.report_endResponse attempt v e)
  have framed {f : RxFrame} (formed : RxFrame.formed f = true) :
      Becomes (.frameReport t ch f) s (judged (classify a f) (some d.now)) :=
    (becomes_frameReport t ch f s).of_eq
      ((Dev.frame_of_receiving (d := d) receiving attempt unjudged formed).trans (ended _ _))
  refine ⟨?malformed, ?nonFrame, ?command, ?alert, ?response⟩
  case malformed =>
    exact (becomes_malformedFrameReport t ch s).of_eq
      ((Dev.malformed_of_receiving (d := d) receiving attempt unjudged).trans (ended _ _))
  case nonFrame =>
    exact (becomes_nonFrameActivity t ch s).of_eq
      ((Dev.nonFrame_of_receiving (d := d) receiving attempt unjudged).trans (ended _ _))
  case command =>
    intro header payload good short
    exact framed (by simpa [RxFrame.formed] using short)
  case alert =>
    intro address priority length code spare payload good formed
    exact framed formed
  case response =>
    intro address kind toggle length spare payload good formed
    rw [← classify_response station expects formed]
    exact framed formed

end Sys2Proof.Machine
end

section
/-! PROOFS. The quiet-wait limit (R39): the head that its expiry ends, and STUCK entered in a part that is not HALTED with no
CHANNEL_DISABLE parked (R43). -/

namespace Sys2Proof.Machine

/-! ## Events and the parked list -/

/-- The events that leave the set take no parked command with them (R144). -/
theorem Dev.parked_postEvents (d : Dev) (n : Nat) : (d.postEvents n).engine.parked = d.engine.parked := by
  induction n generalizing d with
  | zero => rfl
  | succ n ih =>
    unfold Dev.postEvents
    split
    case h_1 => rfl
    case h_2 =>
      rw [ih]
      simp

/-- A fault entered leaves the parked commands as they are (R143). -/
@[simp] theorem Dev.parked_enterEvent (d : Dev) (k : EventKind) (o : Nat) :
    (d.enterEvent k o).engine.parked = d.engine.parked := by
  simp only [Dev.enterEvent, Dev.drainEvents]
  split
  case isTrue => rfl
  case isFalse => split <;> simp [Dev.parked_postEvents]

/-- Which command waits is read from the parked list alone. -/
theorem Dev.hasParked_congr {d e : Dev} (same : e.engine.parked = d.engine.parked) (p : Command → Bool) :
    e.hasParked p = d.hasParked p := by
  simp only [Dev.hasParked, Dev.findParked, same]

/-- There is nothing to answer when no command of the kind waits (R152). -/
theorem Dev.completeParked_of_not_hasParked {d : Dev} {p : Command → Bool} (free : d.hasParked p = false)
    (status : ControlStatus) (detail : Nat) : d.completeParked p status detail = d := by
  have absent : d.findParked p = none := by simpa [Dev.hasParked] using free
  simp [Dev.completeParked, absent]

/-! ## STUCK -/

/-- Outside HALTED and with no CHANNEL_DISABLE parked, the entry to STUCK is the channel emptied and the event (R43). -/
theorem Dev.enterStuck_of_not_disableParked {d : Dev} {ch : ChanId} (up : d.halted = false)
    (free : d.disableParked ch = false) :
    d.enterStuck ch = (d.setChan ch { d.chan ch with
      state := .stuck, selection := none, attempt := none, tx := none, listening := none, activity := none }).enterEvent
        .channelStuck ch.val := by
  rw [Dev.enterStuck, if_neg (by simp [up])]
  refine Dev.completeParked_of_not_hasParked ?_ _ _
  rw [← free]
  exact Dev.hasParked_congr (Dev.parked_enterEvent ..) _

/-! ## The head selected -/

theorem Dev.headOf_tick (d : Dev) (t : Moment) (r : RingId) : (d.tick t).headOf r = d.headOf r := rfl

/-- The selected head still waits with its reservation: it ends LINE_FAULT (R39, R102). -/
theorem Dev.faultSelected_of_waiting {d : Dev} {r : RingId} {v : HeadView} (head : d.headOf r = some v)
    (waits : v.head.waiting = true) :
    d.faultSelected (some (.transaction r v.staged.slot)) = d.assignFinal r (d.finalOf v .lineFault) := by
  simp [Dev.faultSelected, head, waits]

/-- A CALL, a selection that is left or none, a ring with another head or no head, and a head that no longer waits with its
reservation: nothing is completed (R39). -/
theorem Dev.faultSelected_of_not_waiting {d : Dev} {selection : Option Selection}
    (idle : ∀ r slot, selection = some (.transaction r slot) → d.headOf r = none ∨
      ∃ v, d.headOf r = some v ∧ (v.staged.slot ≠ slot ∨ v.head.waiting = false)) :
    d.faultSelected selection = d := by
  unfold Dev.faultSelected
  split
  case h_1 r slot =>
    obtain absent | ⟨v, head, other | gone⟩ := idle r slot rfl
    · simp [absent]
    · simp [head, other]
    · simp [head, gone]
  case h_2 => rfl

/-! ## The statement -/

theorem becomes_quietWaitLimitExpiry (ch : ChanId) (s : State) :
    Becomes (.quietWaitLimitExpiry ch) s (s.dev.quietLimit ch) := rfl

theorem Channel.quietDue_eq (c : Channel) : c.quietDue = c.since + 8 * c.quietLimit := by
  simp [Channel.quietDue, micros, Config.ticksPerMicrosecond, Nat.mul_comm]

theorem Channel.expires_iff (c : Channel) (due : Moment) :
    c.expires due = true ↔ c.lineActive = true ∨ due ≤ max c.since (c.lastQuiet + c.gap * c.rate.bit) := by
  rw [Channel.expires, Bool.or_eq_true]
  exact or_congr_right decide_eq_true_iff

/-- The limit that expires in QUIET_WAIT: the head selected is judged, then the channel is STUCK (R39). -/
theorem Dev.quietLimit_of_expires {d : Dev} {ch : ChanId} (waits : (d.chan ch).state = .quietWait)
    (expires : (d.chan ch).expires (d.chan ch).quietDue = true) :
    d.quietLimit ch = ((d.tick (d.chan ch).quietDue).faultSelected (d.chan ch).selection).enterStuck ch :=
  if_pos ⟨waits, expires⟩

/-- Settles O32: the expiry judges the selection and enters STUCK; the two clauses are the two things the judging can do. -/
theorem quietWaitLimitSticks : Obligations.QuietWaitLimitSticks := by
  intro ch s c quiet due d quietWait unfound
  have expiry : Becomes (.quietWaitLimitExpiry ch) s ((d.faultSelected c.selection).enterStuck ch) := by
    have dueIs : c.quietDue = due := c.quietDue_eq
    have expires : c.expires c.quietDue = true := (c.expires_iff _).2 (by rwa [dueIs])
    refine (becomes_quietWaitLimitExpiry ch s).of_eq ((Dev.quietLimit_of_expires quietWait expires).trans ?_)
    rw [dueIs]
  refine ⟨?faulted, ?nothing⟩
  case faulted =>
    intro r v selected head waits
    rw [selected, Dev.faultSelected_of_waiting (d := d) head waits] at expiry
    exact expiry
  case nothing =>
    intro idle up free
    rw [Dev.faultSelected_of_not_waiting (d := d) idle] at expiry
    exact expiry.of_eq (Dev.enterStuck_of_not_disableParked (d := d) (by simpa [d, Dev.halted] using up) free)

end Sys2Proof.Machine
end

section
/-! PROOFS. The schedule commands (R58, R59, R63): for the command that the engine holds, the answer in the order of its
checks, and each pending slot after a SCHEDULE_WRITE. -/

namespace Sys2Proof.Machine

/-! ## The pending slots -/

/-- The windows go to consecutive slots from `start`, and the other slots keep theirs (R58). -/
theorem getElem_writeSlots (slots : Vector (Option Window) 32) (start : Nat) (ws : List Window) (k : Fin 32) :
    (writeSlots slots start ws)[k] =
      if start ≤ k.val ∧ k.val < start + ws.length then ws[k.val - start]? else slots[k] := by
  induction ws generalizing slots start with
  | nil =>
    have outside : ¬ (start ≤ k.val ∧ k.val < start + ([] : List Window).length) := by simp
    rw [if_neg outside, writeSlots]
  | cons w rest ih =>
    rw [writeSlots, ih]
    obtain below | here | above := Nat.lt_trichotomy k.val start
    · rw [if_neg (by omega), if_neg (by omega)]
      simp [below.ne']
    · simp [← here]
    · have shift : k.val - start = k.val - (start + 1) + 1 := by omega
      have bounds : start + 1 ≤ k.val ∧ k.val < start + 1 + rest.length ↔
          start ≤ k.val ∧ k.val < start + (w :: rest).length := by simp only [List.length_cons]; omega
      simp only [bounds, shift, List.getElem?_cons_succ]
      simp [above.ne]

/-- The check of SCHEDULE_COMMIT: some slot of the range is empty exactly when not every slot is filled (R59). -/
theorem any_isNone_iff_not_all_isSome (slots : List (Option Window)) :
    slots.any Option.isNone = true ↔ slots.all Option.isSome = false := by
  simp

/-! ## The answers -/

/-- The time does not change what the engine is taking. -/
theorem Dev.Taking.tick {d : Dev} {r : Record} {x : Command} (taking : d.Taking r x) (t : Moment) :
    (d.tick t).Taking r x := taking

theorem Dev.Taking.inHand {d : Dev} {r : Record} {x : Command} (taking : d.Taking r x) : d.engine.inHand = some r := by
  obtain ⟨-, -, hand, -⟩ := taking
  exact hand

section Taking

variable {d : Dev} {r : Record} {ch : ChanId}

theorem Dev.takeScheduleWrite_eq {start : Nat} {ws : List Window} (taking : d.Taking r (.scheduleWrite ch start ws)) :
    d.takeScheduleWrite =
      if d.hasParked (Command.isCommit ch) = true then d.answered r .busy 0 []
      else (d.setChan ch { d.chan ch with slots := writeSlots (d.chan ch).slots start ws }).answered r .done 0 [] := by
  rw [← completeInHand_eq taking.inHand, ← completeInHand_eq (by simpa using taking.inHand)]
  simp only [Dev.takeScheduleWrite, acting_of_taking taking]
  rfl

theorem Dev.takeScheduleCommit_eq {length : Nat} {switch : Cycle} (taking : d.Taking r (.scheduleCommit ch length switch)) :
    d.takeScheduleCommit =
      if ((d.chan ch).slots.toList.take length).all Option.isSome = false then d.answered r .invalidParam 0 []
      else if d.hasParked (Command.isCommit ch) = true then d.answered r .busy 0 []
      else if (d.chan ch).state = .off then (d.setChan ch ((d.chan ch).swap length)).answered r .done 0 []
      else d.parkedAtTail r (.commit (Cycle.before switch (d.chan ch).cycle)) := by
  rw [← park_eq taking.inHand]
  iterate 2 rw [← completeInHand_eq taking.inHand]
  rw [← completeInHand_eq (by simpa using taking.inHand)]
  simp only [Dev.takeScheduleCommit, acting_of_taking taking, ← any_isNone_iff_not_all_isSome]
  rfl

theorem Dev.takeScheduleCancel_eq (taking : d.Taking r (.scheduleCancel ch)) :
    d.takeScheduleCancel =
      if d.hasParked (Command.isCommit ch) = true then
        (d.completeParked (Command.isCommit ch) .cancelled).answered r .done 0 []
      else d.answered r .badState 0 [] := by
  have hand : (d.completeParked (Command.isCommit ch) .cancelled).engine.inHand = some r := by
    obtain ⟨-, -, -, -, -, same, -⟩ := d.completeParked_keeps (Command.isCommit ch) .cancelled 0
    rw [same, taking.inHand]
  rw [← completeInHand_eq taking.inHand, ← completeInHand_eq hand]
  simp only [Dev.takeScheduleCancel, acting_of_taking taking]
  rfl

end Taking

/-! ## The statement -/

theorem becomes_scheduleWrite (t : Moment) (s : State) :
    Becomes (.scheduleWrite t) s (s.dev.tick t).takeScheduleWrite := rfl

theorem becomes_scheduleCommit (t : Moment) (s : State) :
    Becomes (.scheduleCommit t) s (s.dev.tick t).takeScheduleCommit := rfl

theorem becomes_scheduleCancel (t : Moment) (s : State) :
    Becomes (.scheduleCancel t) s (s.dev.tick t).takeScheduleCancel := rfl

/-- Settles O47: each clause is one branch of the command's answer. -/
theorem scheduleCommands : Obligations.ScheduleCommands := by
  intro t s record ch d c parked
  have isFree (free : parked = false) : ¬ d.hasParked (Command.isCommit ch) = true := ne_true_of_eq_false free
  refine ⟨?write, ?commit, ?cancel⟩
  case write =>
    intro start ws taking
    have outcome := (becomes_scheduleWrite t s).of_eq (Dev.takeScheduleWrite_eq (taking.tick t))
    refine ⟨?busy, ?done⟩
    case busy => exact fun busy => outcome.of_eq (if_pos busy)
    case done =>
      intro free
      have written := getElem_writeSlots c.slots start ws
      exact ⟨writeSlots c.slots start ws, written, outcome.of_eq (if_neg (isFree free))⟩
  case commit =>
    intro length switch taking full
    have outcome := (becomes_scheduleCommit t s).of_eq (Dev.takeScheduleCommit_eq (taking.tick t))
    have passes (filled : full = true) : ¬ full = false := ne_false_of_eq_true filled
    refine ⟨?empty, ?busy, ?off, ?on⟩
    case empty => exact fun empty => outcome.of_eq (if_pos empty)
    case busy => exact fun filled busy => outcome.of_eq ((if_neg (passes filled)).trans (if_pos busy))
    case off =>
      exact fun filled free off =>
        outcome.of_eq ((if_neg (passes filled)).trans ((if_neg (isFree free)).trans (if_pos off)))
    case on =>
      exact fun filled free on =>
        outcome.of_eq ((if_neg (passes filled)).trans ((if_neg (isFree free)).trans (if_neg on)))
  case cancel =>
    intro taking
    have outcome := (becomes_scheduleCancel t s).of_eq (Dev.takeScheduleCancel_eq (taking.tick t))
    exact ⟨fun waits => outcome.of_eq (if_pos waits), fun free => outcome.of_eq (if_neg (isFree free))⟩

end Sys2Proof.Machine
end

section
/-! PROOFS. What the operations of the ring unit leave of the rings: fetching (R71), the requests and cancels of a head (R76),
and stopping (R81). -/

namespace Sys2Proof.Machine

/-! ## Updates of a ring -/

/-- A second update of a ring replaces the first. -/
@[simp] theorem Dev.setRing_setRing (d : Dev) (r : RingId) (x y : TransRing) :
    (d.setRing r x).setRing r y = d.setRing r y := by
  simp [Dev.setRing]

/-- A ring written as it stands changes nothing. -/
@[simp] theorem Dev.setRing_ring (d : Dev) (r : RingId) : d.setRing r (d.ring r) = d := by
  simp [Dev.setRing, Dev.ring]

theorem Dev.rings_setRing (d : Dev) (r : RingId) (x : TransRing) : (d.setRing r x).rings = d.rings.set r x := rfl

theorem Dev.ring_congr {d e : Dev} (same : e.rings = d.rings) (k : RingId) : e.ring k = d.ring k := by
  rw [Dev.ring, same, Dev.ring]

/-! ## Fetching -/

/-- A ring as the conditions of R71 leave it: with the read of the record at the fetch index in flight when all hold. -/
def TransRing.fetching (x : TransRing) (now : Moment) (part : PartState) : TransRing :=
  { x with
    reading := if x.state = .active ∧ x.reading = none ∧ x.staging.length < 4 ∧ x.fetch ≠ x.post ∧ part ≠ .halted then
      some { slot := x.fetch, address := slotAddress x.base 64 x.fetch, issued := now } else x.reading }

theorem Dev.halted_iff (d : Dev) : d.halted = true ↔ d.port.part = .halted := by
  simp [Dev.halted]

/-- The judgement of R71 is that of the ring. -/
theorem Dev.judgeFetch_eq (d : Dev) (r : RingId) :
    d.judgeFetch r = d.setRing r ((d.ring r).fetching d.now d.port.part) := by
  simp only [Dev.judgeFetch, TransRing.fetching, Dev.halted_iff, Config.stagingLimit, ne_eq]
  split
  case isTrue => rfl
  case isFalse => exact (d.setRing_ring r).symm

/-- A ring that has fetched every record posted issues no read (R71). -/
theorem Dev.judgeFetch_of_caught_up {d : Dev} {r : RingId} (caught : (d.ring r).fetch = (d.ring r).post) :
    d.judgeFetch r = d := by
  simp [Dev.judgeFetch, caught]

/-- The read that R71 issues is of the record at the fetch index. -/
theorem TransRing.next_of_reading_fetching {x : TransRing} {now : Moment} {part : PartState} {next : SlotRead}
    (free : x.reading = none) (issued : (x.fetching now part).reading = some next) :
    next.slot = x.fetch ∧ next.address = slotAddress x.base 64 next.slot := by
  simp only [TransRing.fetching, free] at issued
  split at issued
  case isTrue =>
    cases issued
    exact ⟨rfl, rfl⟩
  case isFalse => contradiction

/-! ## Heads and their reservations -/

/-- A ring without a head asks for nothing (R76). -/
theorem Dev.askReservation_of_no_head {d : Dev} {r : RingId} (absent : (d.ring r).head = none) :
    d.askReservation r = d := by
  simp [Dev.askReservation, absent]

/-- A head that asks changes its reservation field alone (R76). -/
theorem Dev.rings_askReservation {d : Dev} {r : RingId} {h : Head} (head : (d.ring r).head = some h) :
    ∃ v, (d.askReservation r).rings =
      (d.setRing r { d.ring r with head := some { h with reservation := v } }).rings := by
  have unchanged : d.setRing r { d.ring r with head := some { h with reservation := h.reservation } } = d := by
    rw [← head]
    exact d.setRing_ring r
  unfold Dev.askReservation
  rw [head]
  split
  case h_1 b h' _ same =>
    cases same
    split
    case isTrue =>
      exact ⟨.requested, by simp [Dev.modHead, Dev.modRing, head]⟩
    case isFalse => exact ⟨h.reservation, by rw [unchanged]⟩
  case h_2 => exact ⟨h.reservation, by rw [unchanged]⟩

/-- With a record staged the new head is fresh, whether it asks or not (R69, R76). -/
theorem Dev.rings_newHead {d : Dev} {r : RingId} (staged : (d.ring r).staging ≠ []) :
    ∃ v, (d.newHead r).rings = (d.setRing r { d.ring r with head := some { reservation := v } }).rings := by
  simp only [Dev.newHead, if_neg staged]
  split
  case isTrue =>
    obtain ⟨v, asked⟩ := Dev.rings_askReservation (d := d.modRing r fun x => { x with head := some {} }) (r := r)
      (h := {}) (by simp [Dev.modRing])
    exact ⟨v, by simpa only [Dev.modRing, Dev.ring_setRing_self, Dev.setRing_setRing] using asked⟩
  case isFalse => exact ⟨.none, rfl⟩

/-- A head that gives up holds no reservation (R76). -/
theorem Dev.rings_giveUp {d : Dev} {r : RingId} {b : Binding} (bound : (d.ring r).binding = some b) :
    (d.giveUp r).rings = (d.setRing r { d.ring r with
      head := (d.ring r).head.map fun h => { h with reservation := .none } }).rings := by
  have unchanged (same : (d.ring r).head.map (fun h => { h with reservation := .none }) = (d.ring r).head) :
      d.rings = (d.setRing r { d.ring r with
        head := (d.ring r).head.map fun h => { h with reservation := .none } }).rings := by
    rw [same]
    exact (congrArg Dev.rings (d.setRing_ring r)).symm
  unfold Dev.giveUp
  split
  case h_1 b' h _ head =>
    split
    case isTrue free => exact unchanged (by simp [head, ← free])
    case isFalse => simp [Dev.modHead, Dev.modRing]
  case h_2 headless =>
    refine unchanged ?_
    cases head : (d.ring r).head with
    | none => rfl
    | some h => exact absurd head (headless b h bound)

/-! ## Stopping -/

/-- A ring as the conditions of R81 leave it: STOPPED, its head without a reservation, when all hold. -/
def TransRing.stopped (x : TransRing) : TransRing :=
  if x.state = .stopping ∧ x.reading = none ∧ x.quiet = true then
    { x with state := .stopped, head := x.head.map fun h => { h with reservation := .none } }
  else x

/-- The judgement of R81 is that of the ring. -/
theorem Dev.rings_judgeStopping {d : Dev} {r : RingId} {b : Binding} (bound : (d.ring r).binding = some b) :
    (d.judgeStopping r).rings = (d.setRing r (d.ring r).stopped).rings := by
  simp only [Dev.judgeStopping, TransRing.stopped]
  split
  case isTrue =>
    obtain ⟨-, -, ⟨rings, -⟩, -⟩ := ((d.setRing r { d.ring r with state := .stopped }).giveUp r).completeParked_keeps
      (Command.isRingStop r) .done 0
    rw [rings, Dev.rings_giveUp (b := b) (by simpa using bound)]
    simp
  case isFalse => rw [d.setRing_ring r]

theorem TransRing.state_stopped {x : TransRing} (runs : x.state ≠ .stopping) : x.stopped.state = x.state :=
  congrArg TransRing.state (if_neg fun ⟨stopping, _⟩ => runs stopping)

@[simp] theorem TransRing.stopped_keeps (x : TransRing) :
    x.stopped.staging = x.staging ∧ x.stopped.reading = x.reading ∧ x.stopped.fetch = x.fetch ∧
    x.stopped.post = x.post ∧ x.stopped.consumer = x.consumer ∧ x.stopped.binding = x.binding ∧
    x.stopped.base = x.base := by
  unfold TransRing.stopped
  split <;> simp

/-- R81 changes of a head its reservation field alone. -/
theorem TransRing.map_head_stopped {α : Type} {f : Head → α} (blind : ∀ h v, f { h with reservation := v } = f h)
    (x : TransRing) : x.stopped.head.map f = x.head.map f := by
  unfold TransRing.stopped
  split
  case isTrue => simp [Function.comp_def, blind]
  case isFalse => rfl

/-- R71 and then R81 judged of a ring that has a setup. -/
theorem Dev.rings_judgeStopping_judgeFetch {d e : Dev} {r : RingId} {x : TransRing} {b : Binding}
    (rings : e.rings = (d.setRing r x).rings) (bound : x.binding = some b) :
    ((e.judgeFetch r).judgeStopping r).rings = (d.setRing r (x.fetching e.now e.port.part).stopped).rings := by
  have own : e.ring r = x := (Dev.ring_congr rings r).trans (d.ring_setRing_self r x)
  have overwritten (y : TransRing) : (e.setRing r y).rings = (d.setRing r y).rings := by
    rw [Dev.rings_setRing, rings, ← Dev.rings_setRing, Dev.setRing_setRing]
  have setup : ((e.setRing r (x.fetching e.now e.port.part)).ring r).binding = some b := by
    rw [Dev.ring_setRing_self]
    exact bound
  rw [Dev.judgeFetch_eq, own, Dev.rings_judgeStopping setup, Dev.ring_setRing_self, Dev.setRing_setRing, overwritten]

end Sys2Proof.Machine
end

section
/-! PROOFS. The two commands that set off fetching: POST_TRANSACTION_RING (R70) and RING_START (R79). -/

namespace Sys2Proof.Machine

/-! ## POST_TRANSACTION_RING -/

theorem becomes_postTransactionRing (t : Moment) (r : RingId) (i : BitVec 12) (s : State) :
    Becomes (.postTransactionRing t r i) s ((s.dev.tick t).postRing r i.toNat) := rfl

/-- A POST that is taken: the index is set, and R71 judged (R70). -/
theorem Dev.postRing_of_taken {d : Dev} {r : RingId} {b : Binding} {index : Nat} (bound : (d.ring r).binding = some b)
    (up : (d.ring r).state ≠ .disabled) (inside : index < b.size) :
    d.postRing r index = d.setRing r (({ d.ring r with post := index } : TransRing).fetching d.now d.port.part) := by
  simp [Dev.postRing, bound, up, inside, Dev.judgeFetch_eq]

/-- A POST to a DISABLED ring, or of an index that is not below the size, is ignored (R70). -/
theorem Dev.postRing_of_ignored {d : Dev} {r : RingId} {index : Nat}
    (ignored : (d.ring r).binding = none ∨ (d.ring r).state = .disabled ∨
      ∃ b, (d.ring r).binding = some b ∧ b.size ≤ index) : d.postRing r index = d := by
  simp only [Dev.postRing]
  split
  case h_1 b bound =>
    refine if_neg fun ⟨up, inside⟩ => ?_
    obtain absent | down | ⟨e, bound', outside⟩ := ignored
    · simp [absent] at bound
    · exact up down
    · obtain rfl : b = e := by simpa [bound] using bound'
      omega
  case h_2 => rfl

/-- Settles O8: the two clauses are the POST that is taken and the one that is ignored. -/
theorem postMovesThePostIndex : Obligations.PostMovesThePostIndex := by
  intro t r i s d x
  have outcome := becomes_postTransactionRing t r i s
  refine ⟨?taken, ?ignored⟩
  case taken =>
    exact fun b bound up inside => outcome.of_eq (Dev.postRing_of_taken (d := d) bound up inside)
  case ignored =>
    exact fun ignored => outcome.of_eq (Dev.postRing_of_ignored (d := d) ignored)

/-! ## RING_START -/

theorem becomes_ringStart (t : Moment) (s : State) : Becomes (.ringStart t) s (s.dev.tick t).takeRingStart := rfl

/-- RING_START by the ring's state, BUSY during a flush (R79, R85). -/
theorem Dev.takeRingStart_eq {d : Dev} {record : Record} {r : RingId} (taking : d.Taking record (.ringStart r)) :
    d.takeRingStart =
      if d.flushing r = true then d.answered record .busy 0 []
      else if (d.ring r).state = .stopped then
        (((d.setRing r { d.ring r with state := .active }).askReservation r).judgeFetch r).answered record .done 0 []
      else d.answered record .badState 0 [] := by
  have hand : (((d.setRing r { d.ring r with state := .active }).askReservation r).judgeFetch r).engine.inHand =
      some record := by
    simpa using taking.inHand
  rw [← completeInHand_eq hand]
  iterate 2 rw [← completeInHand_eq taking.inHand]
  simp only [Dev.takeRingStart, acting_of_taking taking]
  rfl

/-- Settles O41: each clause is one branch of the command's answer. -/
theorem ringStartActivates : Obligations.RingStartActivates := by
  intro t s record r d x started taking
  have outcome := (becomes_ringStart t s).of_eq (Dev.takeRingStart_eq (taking.tick t))
  have isFree (free : s.dev.flushing r = false) : ¬ d.flushing r = true := ne_true_of_eq_false free
  refine ⟨?busy, ?start, ?badState⟩
  case busy => exact fun busy => outcome.of_eq (if_pos busy)
  case start =>
    intro free stopped
    have starts := outcome.of_eq ((if_neg (isFree free)).trans (if_pos stopped))
    refine ⟨starts, fun absent caught => starts.of_eq ?_⟩
    have ring : started.ring r = { x with state := .active } := d.ring_setRing_self r _
    have asks : started.askReservation r = started := Dev.askReservation_of_no_head (by rw [ring]; exact absent)
    have fetches : started.judgeFetch r = started := Dev.judgeFetch_of_caught_up (by rw [ring]; exact caught)
    change ((started.askReservation r).judgeFetch r).answered record .done 0 [] = _
    rw [asks, fetches]
  case badState =>
    exact fun free other => outcome.of_eq ((if_neg (isFree free)).trans (if_neg other))

end Sys2Proof.Machine
end

section
/-! PROOFS. RECORD_READ_DATA (R72 to R74): the verdict of a record as the first of its nine checks that fails, and the rings
after a record taken, by what each operation of the ring unit leaves of a ring. -/

namespace Sys2Proof.Machine

/-! ## The bits that a record's fields cover -/

/-- The bits covered are those inside a field. -/
theorem testBit_usedBits (fields : List (Nat × Nat)) (i : Nat) :
    (usedBits fields).testBit i = true ↔ ∃ f ∈ fields, f.1 ≤ i ∧ i < f.1 + f.2 := by
  suffices gathered : ∀ m : Nat, (fields.foldl (fun m f => m ||| ((2 ^ f.2 - 1) <<< f.1)) m).testBit i = true ↔
      m.testBit i = true ∨ ∃ f ∈ fields, f.1 ≤ i ∧ i < f.1 + f.2 by
    rw [usedBits, gathered, Nat.zero_testBit]
    simp only [Bool.false_eq_true, false_or]
  induction fields with
  | nil => simp
  | cons f rest ih =>
    intro m
    have covers : ((2 ^ f.2 - 1) <<< f.1).testBit i = true ↔ f.1 ≤ i ∧ i < f.1 + f.2 := by
      simp only [Nat.testBit_shiftLeft, Nat.testBit_two_pow_sub_one, Bool.and_eq_true, decide_eq_true_eq]
      omega
    rw [List.foldl_cons, ih, Nat.testBit_or, Bool.or_eq_true, covers, List.exists_mem_cons_iff, or_assoc]

/-- The bits outside the fields are not all 0 when a bit that is set lies in no field. -/
theorem reservedZero_eq_false_iff (data : Record) (fields : List (Nat × Nat)) :
    reservedZero data fields = false ↔
      ∃ i, data.getLsbD i = true ∧ ¬ ∃ f ∈ fields, f.1 ≤ i ∧ i < f.1 + f.2 := by
  have bitwise : reservedZero data fields = true ↔
      ∀ i, (data.getLsbD i || (usedBits fields).testBit i) = (usedBits fields).testBit i := by
    rw [reservedZero, beq_iff_eq]
    refine ⟨fun same i => ?_, fun same => Nat.eq_of_testBit_eq fun i => ?_⟩
    · rw [← BitVec.testBit_toNat, ← Nat.testBit_or, same]
    · rw [Nat.testBit_or, BitVec.testBit_toNat, same]
  simp only [← Bool.not_eq_true, bitwise, Bool.or_eq_right_iff_imp, testBit_usedBits, not_forall, exists_prop]

/-- The reserved bits of a transaction record (R173). -/
theorem transReserved_iff (data : Record) :
    reservedZero data transFields = false ↔
      ∃ i, data.getLsbD i = true ∧ (i ∈ [6, 7, 14, 15, 22, 23, 28, 29, 30, 31, 60, 61, 62, 63] ∨
        (37 ≤ i ∧ i < 48) ∨ (128 ≤ i ∧ i < 256)) := by
  rw [reservedZero_eq_false_iff]
  refine exists_congr fun i => and_congr_right fun set => ?_
  have inside : i < 512 := BitVec.lt_of_getLsbD set
  simp only [transFields, List.mem_cons, exists_eq_or_imp, exists_eq_left, List.not_mem_nil, or_false]
  omega

/-! ## The nine checks -/

/-- Check `n` of R74 fails. -/
def TransRecord.fails (x : TransRecord) (reservedOk : Bool) : Nat → Bool
  | 1 => x.operation = 3
  | 2 => x.station = 63
  | 3 => 32 < x.length
  | 4 => (x.operation = 0 ∨ x.operation = 2) ∧ x.length = 0
  | 5 => x.station = 0 ∧ (x.operation = 0 ∨ x.operation = 2)
  | 6 => x.station = 0 ∧ x.probe = true
  | 7 => reservedOk = false
  | 8 => x.retryFlag = true ∧ 7 < x.retryLimit
  | 9 => x.holdFlag = true ∧ 15 < x.holdLimit
  | _ => false

theorem TransRecord.op_ne_write_iff {x : TransRecord} (known : x.operation < 4) (legal : x.operation ≠ 3) :
    x.op ≠ .write ↔ x.operation = 0 ∨ x.operation = 2 := by
  unfold TransRecord.op
  split_ifs <;> simp <;> omega

/-- A search in a list, as a chain of conditions. -/
theorem elim_find?_cons {α β : Type} (p : α → Bool) (a : α) (rest : List α) (absent : β) (found : α → β) :
    ((a :: rest).find? p).elim absent found = if p a = true then found a else (rest.find? p).elim absent found := by
  cases check : p a <;> simp [check]

/-- The verdict is the number of the first check that fails (R74). -/
theorem validate_eq {x : TransRecord} (known : x.operation < 4) (reservedOk : Bool) :
    validate x reservedOk = ((List.range' 1 9).find? (x.fails reservedOk)).elim .valid .invalid := by
  by_cases legal : x.operation = 3
  · simp [validate, legal, List.range', TransRecord.fails]
  · simp only [validate, TransRecord.op_ne_write_iff known legal, List.range', elim_find?_cons, TransRecord.fails,
      decide_eq_true_eq, List.find?_nil, Option.elim_none, gt_iff_lt, Bool.not_eq_true]

/-- With no check failing the verdict is VALID (R74). -/
theorem validate_of_none_fails {x : TransRecord} {reservedOk : Bool} (known : x.operation < 4)
    (passes : ∀ n, ¬ x.fails reservedOk n = true) : validate x reservedOk = .valid := by
  have absent : (List.range' 1 9).find? (x.fails reservedOk) = none :=
    List.find?_eq_none.2 fun n _ => passes n
  rw [validate_eq known, absent, Option.elim_none]

/-- The checks are numbered 1 to 9. -/
theorem TransRecord.mem_range_of_fails {x : TransRecord} {reservedOk : Bool} {n : Nat}
    (fails : x.fails reservedOk n = true) : n ∈ List.range' 1 9 := by
  unfold TransRecord.fails at fails
  split at fails
  case h_10 => contradiction
  all_goals decide

/-- The first check that fails gives the verdict (R74). -/
theorem validate_of_first_fails {x : TransRecord} {reservedOk : Bool} {n : Nat} (known : x.operation < 4)
    (fails : x.fails reservedOk n = true) (first : ∀ m, m < n → ¬ x.fails reservedOk m = true) :
    validate x reservedOk = .invalid n := by
  have found : (List.range' 1 9).find? (x.fails reservedOk) = some n :=
    List.find?_range'_eq_some.2 ⟨fails, TransRecord.mem_range_of_fails fails, fun m _ before => by
      simpa using first m before⟩
  rw [validate_eq known, found, Option.elim_some]

theorem TransRecord.ofRecord_operation_lt (data : Record) : (TransRecord.ofRecord data).operation < 4 :=
  Nat.mod_lt _ (by decide)

/-! ## RECORD_READ_DATA -/

/-- A ring that has taken the record of its read, with the head that it then has (R72). -/
def TransRing.taken (x : TransRing) (size slot : Nat) (data : Record) (head : Option Head) : TransRing :=
  { x with reading := none, staging := x.staging ++ [stage slot data], fetch := (x.fetch + 1) % size, head := head }

section Reading

variable {d : Dev} {r : RingId} {read : SlotRead} {b : Binding} (up : d.resetting = false)
  (reading : (d.ring r).reading = some read) (bound : (d.ring r).binding = some b) (data : Record)
include up reading bound

theorem Dev.recordData_eq :
    let e := d.setRing r ((d.ring r).taken b.size read.slot data (d.ring r).head)
    d.recordData r data =
      ((if (d.ring r).staging = [] then e.newHead r else e).judgeFetch r).judgeStopping r := by
  simp [Dev.recordData, up, reading, bound, TransRing.taken, advance]

/-- A record taken changes neither the channels nor the stations nor the host port. -/
theorem Dev.recordData_keeps :
    Same d (d.recordData r data) ∧ SameLine d (d.recordData r data) ∧ (d.recordData r data).port = d.port := by
  rw [Dev.recordData_eq up reading bound]
  split <;> simp [Same, SameLine]

/-- The rings after a record taken: its own has the record at the tail, under a fresh head where the queue was empty, and R71
and R81 judged (R72). -/
theorem Dev.rings_recordData :
    ∃ head, ((d.ring r).staging = [] → ∃ v, head = some { reservation := v }) ∧
      (d.recordData r data).rings = (d.setRing r
        (((d.ring r).taken b.size read.slot data head).fetching d.now d.port.part).stopped).rings := by
  rw [Dev.recordData_eq up reading bound]
  split
  case isTrue empty =>
    let e := d.setRing r ((d.ring r).taken b.size read.slot data (d.ring r).head)
    obtain ⟨⟨now, -, part, -⟩, -⟩ := e.newHead_keeps r
    obtain ⟨v, rings⟩ := Dev.rings_newHead (d := e) (r := r) (by simp [e, TransRing.taken])
    rw [Dev.ring_setRing_self, Dev.setRing_setRing] at rings
    refine ⟨_, fun _ => ⟨v, rfl⟩, ?_⟩
    rw [Dev.rings_judgeStopping_judgeFetch rings bound, now, part]
    rfl
  case isFalse staged =>
    exact ⟨(d.ring r).head, fun empty => absurd empty staged, Dev.rings_judgeStopping_judgeFetch rfl bound⟩

end Reading

/-! ## The statement -/

theorem becomes_recordReadData (t : Moment) (r : RingId) (data : Record) (s : State) :
    Becomes (.recordReadData t r data) s ((s.dev.tick t).recordData r data) := rfl

/-- Settles O12: the verdict by the first check that fails, and the ring's fields by what R71 and R81 can still change of a
ring that has taken the record. -/
theorem recordReadStages : Obligations.RecordReadStages := by
  refine ⟨?verdict, ?staged⟩
  case verdict =>
    intro data x verdict fails
    have known : x.operation < 4 := TransRecord.ofRecord_operation_lt data
    have same (n : Nat) : fails n ↔ x.fails (reservedZero data transFields) n = true := by
      simp only [fails, TransRecord.fails, ← transReserved_iff]
      split <;> simp
    simp only [same]
    exact ⟨validate_of_none_fails known, fun n => validate_of_first_fails known⟩
  case staged =>
    intro t r data s read b up reading bound
    let d := s.dev.tick t
    have awake : d.resetting = false := by simpa [d, Dev.resetting] using up
    obtain ⟨⟨now, alert, -⟩, ⟨channels, stations⟩, port⟩ := Dev.recordData_keeps awake reading bound data
    obtain ⟨head, fresh, rings⟩ := Dev.rings_recordData awake reading bound data
    let x := ((d.ring r).taken b.size read.slot data head).fetching d.now d.port.part
    have own : (d.recordData r data).ring r = x.stopped := (Dev.ring_congr rings r).trans (d.ring_setRing_self r _)
    have others (k : RingId) (other : k ≠ r) := (Dev.ring_congr rings k).trans (d.ring_setRing_ne _ other)
    obtain ⟨staging, inFlight, fetch, post, consumer, binding, base⟩ := x.stopped_keeps
    rw [← own] at staging inFlight fetch post consumer binding base
    refine ⟨_, becomes_recordReadData t r data s, rfl, rfl, now, staging, fetch, post, consumer, binding.trans bound, base,
      ?next, ?state, ?head, others, channels, stations, port, alert⟩
    case next =>
      exact fun next issued => TransRing.next_of_reading_fetching rfl (inFlight.symm.trans issued)
    case state =>
      exact fun runs => (congrArg TransRing.state own).trans (TransRing.state_stopped (x := x) runs)
    case head =>
      intro empty
      obtain ⟨v, rfl⟩ := fresh empty
      have same := congrArg TransRing.head own
      exact (congrArg (Option.map _) same).trans (TransRing.map_head_stopped (fun _ _ => rfl) x)

end Sys2Proof.Machine
end

section
/-! PROOFS. The alert unit: its decision on an alert (R118 to R122), and the four commands that write it (R124 to R127). -/

namespace Sys2Proof.Machine

/-! ## Matching (R119) -/

/-- Two words agree under a mask when they agree at each of its bits. -/
theorem and_eq_and_iff_getLsbD {w : Nat} (x y mask : BitVec w) :
    x &&& mask = y &&& mask ↔ ∀ i, i < w → mask.getLsbD i = true → x.getLsbD i = y.getLsbD i := by
  rw [BitVec.eq_of_getLsbD_eq_iff]
  refine forall₂_congr fun i _ => ?_
  simp only [BitVec.getLsbD_and]
  cases mask.getLsbD i <;> simp

/-- An entry matches an alert by its valid flag, its channels, its station and its code under the mask (R119). -/
theorem FilterEntry.applies_iff (e : FilterEntry) (ch : ChanId) (a : AlertFrame) :
    e.applies ch a = true ↔
      e.valid = true ∧ e.channels.getLsbD ch.val = true ∧ (e.station = 0 ∨ e.station = a.station.val + 1) ∧
      ∀ i, i < 8 → e.mask.getLsbD i = true → a.code.getLsbD i = e.code.getLsbD i := by
  simp only [FilterEntry.applies, Bool.and_eq_true, Bool.or_eq_true, beq_iff_eq, and_eq_and_iff_getLsbD, stationAddress,
    and_assoc]

/-! ## The first match (R120) -/

section Decision

variable {u : AlertUnit} {ch : ChanId} {a : AlertFrame}

/-- The first match is the entry that matches with none before it matching. -/
theorem AlertUnit.firstMatch_eq_some {k : Fin 16} (hit : u.table[k].applies ch a = true)
    (first : ∀ j : Fin 16, j < k → u.table[j].applies ch a = false) : u.firstMatch ch a = some u.table[k] := by
  refine List.find?_eq_some_iff_getElem.2 ⟨hit, k.val, by simp, by simp, fun j before => ?_⟩
  simpa using first ⟨j, before.trans k.isLt⟩ before

theorem AlertUnit.firstMatch_eq_none (misses : ∀ j : Fin 16, u.table[j].applies ch a = false) :
    u.firstMatch ch a = none := by
  refine List.find?_eq_none.2 fun e entry => ?_
  obtain ⟨j, inside, rfl⟩ := List.getElem_of_mem entry
  simpa using misses ⟨j, by simpa using inside⟩

/-! ## The decision (R118, R121, R122) -/

theorem AlertUnit.decide_of_dropAll (mode : u.modes[ch] = .dropAll) : u.decide ch a = none := by
  rw [AlertUnit.decide, mode]

theorem AlertUnit.decide_of_passAll (mode : u.modes[ch] = .passAll) : u.decide ch a = some a.priority := by
  rw [AlertUnit.decide, mode]

theorem AlertUnit.decide_of_filter (mode : u.modes[ch] = .filter) : u.decide ch a = u.filter ch a true := by
  rw [AlertUnit.decide, mode]

theorem AlertUnit.decide_of_filterInverse (mode : u.modes[ch] = .filterInverse) :
    u.decide ch a = u.filter ch a false := by
  rw [AlertUnit.decide, mode]

/-- The entry that matches first decides by its action, whatever a set bin means (R120, R122). -/
theorem AlertUnit.filter_of_firstMatch {e : FilterEntry} (found : u.firstMatch ch a = some e) (set : Bool) :
    u.filter ch a set = if e.action = .accept then some (e.override.getD a.priority) else none := by
  rw [AlertUnit.filter, found]

/-- With no match the alert's bin decides (R121). -/
theorem AlertUnit.filter_of_no_match (absent : u.firstMatch ch a = none) (set : Bool) :
    u.filter ch a set = if u.bins.getLsbD (binOf a) = set then some a.priority else none := by
  rw [AlertUnit.filter, absent]

/-- In both filter modes the first match decides alike (R118). -/
theorem AlertUnit.decide_of_firstMatch {e : FilterEntry}
    (mode : u.modes[ch] = .filter ∨ u.modes[ch] = .filterInverse) (found : u.firstMatch ch a = some e) :
    u.decide ch a = if e.action = .accept then some (e.override.getD a.priority) else none := by
  obtain filter | inverse := mode
  · rw [AlertUnit.decide_of_filter filter, AlertUnit.filter_of_firstMatch found]
  · rw [AlertUnit.decide_of_filterInverse inverse, AlertUnit.filter_of_firstMatch found]

end Decision

/-- Settles O28: an entry's conditions, the two modes that do not look at the alert, the first match, and the bin. -/
theorem filterDecides : Obligations.FilterDecides := by
  intro u ch a bin filters
  refine ⟨fun e => e.applies_iff ch a, AlertUnit.decide_of_dropAll, AlertUnit.decide_of_passAll, ?table, ?bins⟩
  case table =>
    intro k mode hit first
    have decision := AlertUnit.decide_of_firstMatch mode (AlertUnit.firstMatch_eq_some hit first)
    have other (reject : u.table[k].action = .reject) : ¬ u.table[k].action = .accept := by
      rw [reject]
      decide
    exact ⟨fun accept => decision.trans (if_pos accept), fun reject => decision.trans (if_neg (other reject))⟩
  case bins =>
    intro misses
    have byBin := AlertUnit.filter_of_no_match (AlertUnit.firstMatch_eq_none misses)
    have clear : (if u.bins.getLsbD bin = false then some a.priority else none) =
        if u.bins.getLsbD bin then none else some a.priority := by
      cases u.bins.getLsbD bin <;> rfl
    exact ⟨fun mode => (AlertUnit.decide_of_filter mode).trans (byBin true),
      fun mode => ((AlertUnit.decide_of_filterInverse mode).trans (byBin false)).trans clear⟩

/-! ## The commands of the alert unit -/

theorem becomes_filterWrite (t : Moment) (s : State) : Becomes (.filterWrite t) s (s.dev.tick t).takeFilterWrite := rfl

theorem becomes_filterBins (t : Moment) (s : State) : Becomes (.filterBins t) s (s.dev.tick t).takeFilterBins := rfl

theorem becomes_filterMode (t : Moment) (s : State) : Becomes (.filterMode t) s (s.dev.tick t).takeFilterMode := rfl

theorem becomes_alertMap (t : Moment) (s : State) : Becomes (.alertMap t) s (s.dev.tick t).takeAlertMap := rfl

section Taking

variable {d : Dev} {r : Record}

/-- A new alert unit leaves the record in hand, which is answered DONE. -/
theorem Dev.completeInHand_setAlert {x : Command} (taking : d.Taking r x) (u : AlertUnit) :
    (d.setAlert u).completeInHand .done = Dev.answered { d with alert := u } r .done 0 [] :=
  completeInHand_eq (d := d.setAlert u) taking.inHand .done 0 []

theorem Dev.takeFilterWrite_eq {k : Fin 16} {e : FilterEntry} (taking : d.Taking r (.filterWrite k e)) :
    d.takeFilterWrite = Dev.answered { d with alert := { d.alert with table := d.alert.table.set k e } } r .done 0 [] := by
  simp only [Dev.takeFilterWrite, acting_of_taking taking, Dev.completeInHand_setAlert taking]

theorem Dev.takeFilterBins_eq {bins : BitVec 64} (taking : d.Taking r (.filterBins bins)) :
    d.takeFilterBins = Dev.answered { d with alert := { d.alert with bins := bins } } r .done 0 [] := by
  simp only [Dev.takeFilterBins, acting_of_taking taking, Dev.completeInHand_setAlert taking]

theorem Dev.takeFilterMode_eq {ch : ChanId} {mode : FilterMode} (taking : d.Taking r (.filterMode ch mode)) :
    d.takeFilterMode =
      Dev.answered { d with alert := { d.alert with modes := d.alert.modes.set ch mode } } r .done 0 [] := by
  simp only [Dev.takeFilterMode, acting_of_taking taking, Dev.completeInHand_setAlert taking]

theorem Dev.takeAlertMap_eq {map : Vector Destination 8} (taking : d.Taking r (.alertMap map)) :
    d.takeAlertMap = Dev.answered { d with alert := { d.alert with map := map } } r .done 0 [] := by
  simp only [Dev.takeAlertMap, acting_of_taking taking, Dev.completeInHand_setAlert taking]

end Taking

/-- Settles O39: each command writes its field of the alert unit and is answered DONE. -/
theorem alertCommandsWrite : Obligations.AlertCommandsWrite := by
  intro t s record d u done
  refine ⟨?table, ?bins, ?mode, ?map⟩
  case table =>
    exact fun k e taking => (becomes_filterWrite t s).of_eq (Dev.takeFilterWrite_eq (taking.tick t))
  case bins =>
    exact fun bins taking => (becomes_filterBins t s).of_eq (Dev.takeFilterBins_eq (taking.tick t))
  case mode =>
    exact fun ch m taking => (becomes_filterMode t s).of_eq (Dev.takeFilterMode_eq (taking.tick t))
  case map =>
    exact fun map taking => (becomes_alertMap t s).of_eq (Dev.takeAlertMap_eq (taking.tick t))

end Sys2Proof.Machine
end

section
/-! PROOFS. The reading commands: NOP (R160), STATION_READ (R32) and COUNTERS_READ (R161), each answered DONE. -/

namespace Sys2Proof.Machine

section Taking

variable {d : Dev} {r : Record}

theorem Dev.takeNop_eq (taking : d.Taking r .nop) :
    d.takeNop = d.answered r .done (d.engine.parked.countP Parked.waiting) [] := by
  simp only [Dev.takeNop, acting_of_taking taking, completeInHand_eq taking.inHand]

theorem Dev.takeStationRead_eq {ch : ChanId} {st : StationId} (taking : d.Taking r (.stationRead ch st)) :
    d.takeStationRead = d.answered r .done 0 (d.station ch st).bytes := by
  simp only [Dev.takeStationRead, acting_of_taking taking, completeInHand_eq taking.inHand]

/-- The answer holds the counters as they stood before the clear flag acts on them (R161). -/
theorem Dev.takeCountersRead_eq {ch : ChanId} {clear : Bool} (taking : d.Taking r (.countersRead ch clear)) :
    d.takeCountersRead =
      (d.setChan ch { d.chan ch with counters := if clear then {} else (d.chan ch).counters }).answered r .done
        (d.chan ch).state.code (d.chan ch).counters.bytes := by
  rw [← completeInHand_eq (by simpa using taking.inHand)]
  simp only [Dev.takeCountersRead, acting_of_taking taking, Dev.readCounters, Dev.modChan]

end Taking

/-! ## The statement -/

theorem becomes_nop (t : Moment) (s : State) : Becomes (.nop t) s (s.dev.tick t).takeNop := rfl

theorem becomes_stationRead (t : Moment) (s : State) : Becomes (.stationRead t) s (s.dev.tick t).takeStationRead := rfl

theorem becomes_countersRead (t : Moment) (s : State) :
    Becomes (.countersRead t) s (s.dev.tick t).takeCountersRead := rfl

/-- Settles O38: each command in hand is answered DONE with what it reads, which the passing of time leaves as it was. -/
theorem readingCommandsAnswer : Obligations.ReadingCommandsAnswer := by
  intro t s record d
  refine ⟨?nop, ?station, ?counters⟩
  case nop => exact fun taking => (becomes_nop t s).of_eq (Dev.takeNop_eq (taking.tick t))
  case station =>
    exact fun ch st taking => (becomes_stationRead t s).of_eq (Dev.takeStationRead_eq (taking.tick t))
  case counters =>
    exact fun ch clear taking => (becomes_countersRead t s).of_eq (Dev.takeCountersRead_eq (taking.tick t))

end Sys2Proof.Machine
end

section
/-! PROOFS. What the ring unit and an arbitration occasion can do to the part, said once: `Dev.Calm`. A calm operation
completes heads and answers parked commands, lets an IDLE channel select, and takes stations to UNKNOWN; it makes no head wait
with its reservation that did not before. The invariants and the frames of the larger operations are read from it. -/

namespace Sys2Proof.Machine

/-! ## Relations between a block before and after -/

/-- A window record but for its CALL state, which the channel itself advances (R56). -/
def WindowRec.plan (w : WindowRec) : WindowRec := { w with call := .due }

/-- Of a channel only its selection, with the state and the moment of the wait, and the CALL state of its window may differ;
the state only by passing from IDLE to QUIET_WAIT (R37, R56). -/
structure Channel.Waits (c e : Channel) : Prop where
  rest : e = { c with state := e.state, selection := e.selection, since := e.since, window := e.window }
  window : e.window.map WindowRec.plan = c.window.map WindowRec.plan
  state : e.state = c.state ∨ c.state = .idle ∧ e.state = .quietWait

/-- Of a station record only the presence may differ, and only by becoming UNKNOWN (R25). -/
structure StationRec.Ends (x y : StationRec) : Prop where
  rest : y = { x with presence := y.presence }
  presence : y.presence = x.presence ∨ y.presence = .unknown

/-- The head of a ring with its record and the ring's setup. -/
def TransRing.view (x : TransRing) : Option HeadView :=
  match x.binding, x.staging, x.head with
  | some b, sr :: _, some h => some { binding := b, staged := sr, head := h }
  | _, _, _ => none

/-- A ring's queue stays bounded, its state stays or becomes STOPPED, and no head waits with its reservation that did not. -/
structure TransRing.Settles (x y : TransRing) : Prop where
  bounded : x.Bounded → y.Bounded
  state : y.state = x.state ∨ y.state = .stopped
  waiting : ∀ v, y.view = some v → v.head.waiting = true → x.view = some v

/-- Parked commands may have become POSTING, each with its entry at the tail of the CCR's posting queue (R152); while the part
is HALTED no write is issued for them (R145). -/
structure Dev.Answers (d e : Dev) : Prop where
  part : e.port.part = d.port.part
  engine : e.engine = { d.engine with parked := e.engine.parked }
  records : e.engine.parked.map Parked.record = d.engine.parked.map Parked.record
  posted : ∃ own : List Posting, (∀ p ∈ own, ∃ record, p.source = .parked record) ∧
    e.ccr = { d.ccr with slots := { d.ccr.slots with
      posting := d.ccr.slots.posting ++ own, stage := e.ccr.slots.stage } }
  stage : d.halted = true → e.ccr.slots.stage = d.ccr.slots.stage

/-- Of the parked commands only RING_STOPs may have been answered: which command of another kind waits is the same. -/
def Dev.AnswersStops (d e : Dev) : Prop :=
  ∀ p : Command → Bool, (∀ (c : Command) (r : RingId), p c = true → c.isRingStop r = false) → e.findParked p = d.findParked p

/-- What completing heads and arbitrating can do (R77, R88 to R93). -/
structure Dev.Calm (d e : Dev) : Prop where
  same : Same d e
  channels : ∀ ch, (d.chan ch).Waits (e.chan ch)
  stations : ∀ ch st, (d.station ch st).Ends (e.station ch st)
  rings : ∀ r, (d.ring r).Settles (e.ring r)
  answers : d.Answers e
  stops : d.AnswersStops e

/-! ## Each is a preorder -/

theorem Channel.Waits.refl (c : Channel) : c.Waits c := ⟨rfl, rfl, .inl rfl⟩

theorem Channel.Waits.trans {a b c : Channel} (h : a.Waits b) (k : b.Waits c) : a.Waits c := by
  refine ⟨?_, k.window.trans h.window, ?_⟩
  · rw [k.rest, h.rest]
  · obtain same | ⟨idle, waits⟩ := k.state
    · rw [same]
      exact h.state
    · obtain same | ⟨-, other⟩ := h.state
      · exact .inr ⟨same ▸ idle, waits⟩
      · rw [other] at idle
        contradiction

theorem StationRec.Ends.refl (x : StationRec) : x.Ends x := ⟨rfl, .inl rfl⟩

theorem StationRec.Ends.trans {a b c : StationRec} (h : a.Ends b) (k : b.Ends c) : a.Ends c := by
  refine ⟨?_, ?_⟩
  · rw [k.rest, h.rest]
  · obtain same | unknown := k.presence
    · rw [same]
      exact h.presence
    · exact .inr unknown

theorem TransRing.Settles.refl (x : TransRing) : x.Settles x := ⟨id, .inl rfl, fun _ view _ => view⟩

theorem TransRing.Settles.trans {a b c : TransRing} (h : a.Settles b) (k : b.Settles c) : a.Settles c := by
  refine ⟨k.bounded ∘ h.bounded, ?_, fun v view waits => h.waiting v (k.waiting v view waits) waits⟩
  obtain same | stopped := k.state
  · rw [same]
    exact h.state
  · exact .inr stopped

theorem Dev.Answers.of_same {d e : Dev} (part : e.port.part = d.port.part) (engine : e.engine = d.engine)
    (ccr : e.ccr = d.ccr) : d.Answers e where
  part := part
  engine := by rw [engine]
  records := by rw [engine]
  posted := ⟨[], by simp, by rw [ccr, List.append_nil]⟩
  stage _ := by rw [ccr]

theorem Dev.Answers.trans {a b c : Dev} (h : a.Answers b) (k : b.Answers c) : a.Answers c where
  part := k.part.trans h.part
  engine := by rw [k.engine, h.engine]
  records := k.records.trans h.records
  posted := by
    obtain ⟨own, ofParked, ccr⟩ := h.posted
    obtain ⟨more, ofParked', ccr'⟩ := k.posted
    refine ⟨own ++ more, fun p mem => (List.mem_append.1 mem).elim (ofParked p) (ofParked' p), ?_⟩
    rw [ccr', ccr, List.append_assoc]
  stage halted := by
    have halted' : b.halted = true := by simpa [Dev.halted, h.part] using halted
    exact (k.stage halted').trans (h.stage halted)

theorem Dev.AnswersStops.of_engine {d e : Dev} (engine : e.engine = d.engine) : d.AnswersStops e := fun _ _ => by
  rw [Dev.findParked, engine, Dev.findParked]

theorem Dev.AnswersStops.trans {a b c : Dev} (h : a.AnswersStops b) (k : b.AnswersStops c) : a.AnswersStops c :=
  fun p other => (k p other).trans (h p other)

theorem Dev.chan_congr {d e : Dev} (same : e.channels = d.channels) (k : ChanId) : e.chan k = d.chan k := by
  rw [Dev.chan, same, Dev.chan]

theorem Dev.station_congr {d e : Dev} (same : e.stations = d.stations) (k : ChanId) (j : StationId) :
    e.station k j = d.station k j := by
  rw [Dev.station, same, Dev.station]

/-- What changes neither line nor rings nor engine nor CCR is calm. -/
theorem Dev.Calm.of_same {d e : Dev} (same : Same d e) (line : SameLine d e) (rings : e.rings = d.rings)
    (control : SameControl d e) : d.Calm e where
  same := same
  channels ch := by
    rw [Dev.chan_congr line.1]
    exact .refl _
  stations ch st := by
    rw [Dev.station_congr line.2]
    exact .refl _
  rings r := by
    rw [Dev.ring_congr rings]
    exact .refl _
  answers :=
    have ⟨_, _, part, _⟩ := same
    .of_same part control.1 control.2
  stops := .of_engine control.1

theorem Dev.Calm.refl (d : Dev) : d.Calm d := .of_same (by simp [Same]) (by simp [SameLine]) rfl (by simp [SameControl])

theorem Dev.Calm.trans {a b c : Dev} (h : a.Calm b) (k : b.Calm c) : a.Calm c where
  same := by
    obtain ⟨h1, h2, h3, h4, h5, h6⟩ := h.same
    obtain ⟨k1, k2, k3, k4, k5, k6⟩ := k.same
    exact ⟨k1.trans h1, k2.trans h2, k3.trans h3, k4.trans h4, k5.trans h5, k6.trans h6⟩
  channels ch := (h.channels ch).trans (k.channels ch)
  stations ch st := (h.stations ch st).trans (k.stations ch st)
  rings r := (h.rings r).trans (k.rings r)
  answers := h.answers.trans k.answers
  stops := h.stops.trans k.stops

/-- A fold of calm operations is calm. -/
theorem Dev.Calm.foldl {α : Type} {f : Dev → α → Dev} (calm : ∀ (d : Dev) (x : α), d.Calm (f d x)) (xs : List α) (d : Dev) :
    d.Calm (xs.foldl f d) := by
  induction xs generalizing d with
  | nil => exact .refl d
  | cons x xs ih => exact (calm d x).trans (ih _)

/-! ## Updates of one block -/

theorem Dev.calm_setRing {d : Dev} {r : RingId} {x : TransRing} (settles : (d.ring r).Settles x) : d.Calm (d.setRing r x) where
  same := by simp [Same]
  channels _ := .refl _
  stations _ _ := .refl _
  rings k := by
    obtain rfl | other := eq_or_ne k r
    · rwa [Dev.ring_setRing_self]
    · rw [Dev.ring_setRing_ne _ _ other]
      exact .refl _
  answers := .of_same rfl rfl rfl
  stops := .of_engine rfl

theorem Dev.calm_setChan {d : Dev} {ch : ChanId} {c : Channel} (waits : (d.chan ch).Waits c) : d.Calm (d.setChan ch c) where
  same := by simp [Same]
  channels k := by
    obtain rfl | other := eq_or_ne k ch
    · rwa [Dev.chan_setChan_self]
    · rw [Dev.chan_setChan_ne _ _ other]
      exact .refl _
  stations _ _ := .refl _
  rings _ := .refl _
  answers := .of_same rfl rfl rfl
  stops := .of_engine rfl

theorem Dev.calm_setStation {d : Dev} {ch : ChanId} {st : StationId} {x : StationRec} (ends : (d.station ch st).Ends x) :
    d.Calm (d.setStation ch st x) where
  same := by simp [Same]
  channels _ := .refl _
  stations k j := by
    by_cases own : k = ch ∧ j = st
    · obtain ⟨rfl, rfl⟩ := own
      rwa [Dev.station_setStation_self]
    · rw [Dev.station_setStation_ne _ _ (not_and_or.1 own)]
      exact .refl _
  rings _ := .refl _
  answers := .of_same rfl rfl rfl
  stops := .of_engine rfl

/-! ## Rings -/

theorem Dev.headOf_eq (d : Dev) (r : RingId) : d.headOf r = (d.ring r).view := rfl

/-- A ring whose head has gone or does not wait with a reservation settles when its queue stays bounded. -/
theorem TransRing.Settles.of_not_waiting {x y : TransRing} (bounded : x.Bounded → y.Bounded)
    (state : y.state = x.state ∨ y.state = .stopped) (idle : ∀ h, y.head = some h → h.waiting = false) : x.Settles y where
  bounded := bounded
  state := state
  waiting v view waits := by
    unfold TransRing.view at view
    split at view
    · rename_i head
      cases view
      rw [idle _ head] at waits
      contradiction
    · contradiction

/-- A ring with its head and record kept settles. -/
theorem TransRing.Settles.of_view {x y : TransRing} (bounded : x.Bounded → y.Bounded)
    (state : y.state = x.state ∨ y.state = .stopped) (view : y.view = x.view) : x.Settles y where
  bounded := bounded
  state := state
  waiting _ seen _ := view ▸ seen

theorem Head.not_waiting_of_reservation {h : Head} (free : h.reservation ≠ .held) : h.waiting = false := by
  simp [Head.waiting, free]

theorem Head.not_waiting_of_final {h : Head} {f : Final} (ended : h.final = some f) : h.waiting = false := by
  simp [Head.waiting, ended]

/-- A change of a head that leaves it without a wait. -/
theorem Dev.calm_modHead {d : Dev} {r : RingId} {f : Head → Head} (idle : ∀ h, (f h).waiting = false) :
    d.Calm (d.modHead r f) :=
  Dev.calm_setRing <| .of_not_waiting id (.inl rfl) fun h head => by
    obtain ⟨h', -, rfl⟩ := Option.map_eq_some_iff.1 head
    exact idle h'

theorem Dev.giveRoom_calm (d : Dev) (c : CrId) : d.Calm (d.giveRoom c) :=
  have ⟨same, line, control, _, rings⟩ := d.giveRoom_keeps c
  .of_same same line rings control

theorem Dev.setCring_calm (d : Dev) (c : CrId) (x : Cring) : d.Calm (d.setCring c x) :=
  .of_same (by simp [Same]) (by simp [SameLine]) rfl (by simp [SameControl])

theorem Dev.postCring_calm (d : Dev) (c : CrId) (p : Posting) : d.Calm (d.postCring c p) := Dev.setCring_calm ..

theorem Dev.publish_calm (d : Dev) (f : FieldId) (n : Nat) (p : Purpose) : d.Calm (d.publish f n p) :=
  have ⟨same, line, ⟨rings, _⟩, control⟩ := d.publish_keeps f n p
  .of_same same line rings control

theorem Dev.requestReservation_calm (d : Dev) (c : CrId) (r : RingId) : d.Calm (d.requestReservation c r) :=
  have ⟨same, line, control, _, rings⟩ := d.requestReservation_keeps c r
  .of_same same line rings control

theorem Dev.cancelReservation_calm (d : Dev) (c : CrId) (r : RingId) : d.Calm (d.cancelReservation c r) :=
  have ⟨same, line, control, _, rings⟩ := d.cancelReservation_keeps c r
  .of_same same line rings control

/-! ## Answers of parked commands -/

/-- Marking a command POSTING changes no record. -/
@[simp] theorem map_record_markPosting (p : Command → Bool) (parked : List Parked) :
    (markPosting p parked).map Parked.record = parked.map Parked.record := by
  induction parked with
  | nil => rfl
  | cons k rest ih =>
    unfold markPosting
    split
    · rfl
    · rw [List.map_cons, ih, List.map_cons]

/-- An entry handed to the CCR stands at the tail of its queue; while HALTED no write is issued (R137, R145). -/
theorem Slots.post_eq (x : Slots) (p : Posting) (halted : Bool) :
    x.post p halted = { x with posting := x.posting ++ [p],
                               stage := if halted = false ∧ x.stage = .idle then .writing else x.stage } := by
  cases halted
  · by_cases idle : x.stage = .idle <;> simp [Slots.post, Slots.begin, idle]
  · simp [Slots.post]

/-- An answer to a command of one kind leaves the first command of another kind waiting. -/
theorem find_markPosting {p q : Command → Bool} (apart : ∀ c, p c = true → q c = false) (parked : List Parked) :
    (markPosting q parked).find? (fun j => j.matchesCommand p) = parked.find? fun j => j.matchesCommand p := by
  induction parked with
  | nil => rfl
  | cons j rest ih =>
    rw [markPosting]
    split
    case isTrue marked =>
      have unlike : j.matchesCommand p = false := by
        rw [Parked.matchesCommand, Bool.and_eq_true] at marked
        obtain ⟨-, named⟩ := marked
        cases command : commandOf j.record with
        | none => simp [Parked.matchesCommand, command]
        | some c =>
          have kind : q c = true := by simpa [command] using named
          have other : p c = false := Bool.eq_false_iff.2 fun same => nomatch (apart c same).symm.trans kind
          simp [Parked.matchesCommand, command, other]
      rw [List.find?_cons_of_neg (by simp [Parked.matchesCommand]), List.find?_cons_of_neg (by simp [unlike])]
    case isFalse =>
      rw [List.find?_cons, List.find?_cons, ih]

/-- What an answer to a parked command does, by the command found (R152). -/
theorem Dev.completeParked_of_found {d : Dev} {p : Command → Bool} {k : Parked} (found : d.findParked p = some k)
    (status : ControlStatus) (n : Nat) :
    d.completeParked p status n = { d with
      engine := { d.engine with parked := markPosting p d.engine.parked }
      ccr := { d.ccr with slots := d.ccr.slots.post {
        entry := d.controlEntry k.record status n [], source := .parked k.record } d.halted } } := by
  rw [Dev.completeParked, found]
  rfl

theorem Dev.completeParked_answers (d : Dev) (p : Command → Bool) (status : ControlStatus) (n : Nat) :
    d.Answers (d.completeParked p status n) := by
  cases found : d.findParked p with
  | none =>
    rw [Dev.completeParked, found]
    exact .of_same rfl rfl rfl
  | some k =>
    rw [Dev.completeParked_of_found found, Slots.post_eq]
    refine ⟨rfl, rfl, map_record_markPosting .., ?_, fun halted => ?_⟩
    · exact ⟨[{ entry := d.controlEntry k.record status n [], source := .parked k.record }], by simp, rfl⟩
    · simp [halted]

/-- The answer of one kind of parked command leaves those of another kind waiting (R152). -/
theorem Dev.findParked_completeParked {d : Dev} {p q : Command → Bool} (apart : ∀ c, p c = true → q c = false)
    (status : ControlStatus) (n : Nat) : (d.completeParked q status n).findParked p = d.findParked p := by
  cases found : d.findParked q with
  | none => rw [Dev.completeParked, found]
  | some k =>
    rw [Dev.completeParked_of_found found]
    exact find_markPosting apart _

theorem Dev.answerStop_calm (d : Dev) (r : RingId) (status : ControlStatus) (n : Nat) :
    d.Calm (d.completeParked (Command.isRingStop r) status n) :=
  have ⟨same, line, ⟨rings, _⟩, _⟩ := d.completeParked_keeps (Command.isRingStop r) status n
  { same := same
    channels := fun ch => Dev.chan_congr line.1 ch ▸ .refl _
    stations := fun ch st => Dev.station_congr line.2 ch st ▸ .refl _
    rings := fun k => Dev.ring_congr rings k ▸ .refl _
    answers := d.completeParked_answers _ status n
    stops := fun _ other => Dev.findParked_completeParked (fun c named => other c r named) status n }

/-! ## Operations of the ring unit -/

theorem Dev.askReservation_calm (d : Dev) (r : RingId) : d.Calm (d.askReservation r) := by
  unfold Dev.askReservation
  split
  · split
    · exact (Dev.calm_modHead fun _ => Head.not_waiting_of_reservation (by simp)).trans (Dev.requestReservation_calm ..)
    · exact .refl d
  · exact .refl d

theorem Dev.newHead_calm (d : Dev) (r : RingId) : d.Calm (d.newHead r) := by
  have fresh (h : Option Head) (idle : ∀ x, h = some x → x.waiting = false) :
      d.Calm (d.modRing r fun x => { x with head := h }) :=
    Dev.calm_setRing (.of_not_waiting id (.inl rfl) idle)
  unfold Dev.newHead
  split
  · exact fresh none (by simp)
  · have begun := fresh (some {}) (by simp [Head.waiting])
    dsimp only
    split
    · exact begun.trans (Dev.askReservation_calm ..)
    · exact begun

theorem TransRing.bounded_of_reading {x : TransRing} (read : SlotRead) (room : x.staging.length < 4) :
    ({ x with reading := some read } : TransRing).Bounded := by
  simpa [TransRing.Bounded, Config.stagingLimit] using room

theorem Dev.judgeFetch_calm (d : Dev) (r : RingId) : d.Calm (d.judgeFetch r) := by
  unfold Dev.judgeFetch
  dsimp only
  split
  case isTrue fetches =>
    obtain ⟨-, -, room, -⟩ := fetches
    exact Dev.calm_setRing (.of_view (fun _ => TransRing.bounded_of_reading _ room) (.inl rfl) rfl)
  case isFalse => exact .refl d

theorem Dev.giveUp_calm (d : Dev) (r : RingId) : d.Calm (d.giveUp r) := by
  unfold Dev.giveUp
  split
  · split
    · exact .refl d
    · have asks : d.Calm (d.modHead r fun h => { h with reservation := .none }) :=
        Dev.calm_modHead fun _ => Head.not_waiting_of_reservation (by simp)
      have voids (e : Dev) (grants : List Grant) : e.Calm { e with grants := grants } :=
        .of_same (by simp [Same]) (by simp [SameLine]) rfl (by simp [SameControl])
      exact (asks.trans (voids _ _)).trans (Dev.cancelReservation_calm ..)
  · exact .refl d

/-- A ring that becomes STOPPED keeps its head. -/
theorem Dev.calm_stopRing (d : Dev) (r : RingId) : d.Calm (d.setRing r { d.ring r with state := .stopped }) :=
  Dev.calm_setRing (.of_view id (.inr rfl) rfl)

theorem Dev.judgeStopping_calm (d : Dev) (r : RingId) : d.Calm (d.judgeStopping r) := by
  unfold Dev.judgeStopping
  dsimp only
  split
  · exact ((d.calm_stopRing r).trans (Dev.giveUp_calm ..)).trans (Dev.answerStop_calm ..)
  · exact .refl d

theorem Dev.judgeFaulted_calm (d : Dev) (r : RingId) : d.Calm (d.judgeFaulted r) := by
  unfold Dev.judgeFaulted
  dsimp only
  split
  · exact (d.calm_stopRing r).trans (Dev.answerStop_calm ..)
  · exact .refl d

theorem Dev.judgeFlush_calm (d : Dev) (r : RingId) : d.Calm (d.judgeFlush r) := by
  unfold Dev.judgeFlush
  dsimp only
  split
  · split
    · refine (Dev.calm_setRing ?_).trans (Dev.publish_calm ..)
      exact .of_view id (.inl rfl) rfl
    · exact .refl d
  · exact .refl d

theorem Dev.doneReport_calm (d : Dev) (r : RingId) : d.Calm (d.doneReport r) := by
  unfold Dev.doneReport
  dsimp only
  split
  case h_1 b sr rest bound staging =>
    have shorter (x : TransRing) (consumer : Nat) (eq : x.staging = sr :: rest) :
        x.Settles { x with staging := rest, consumer := consumer, head := none } := by
      refine .of_not_waiting (fun bounded => ?_) (.inl rfl) (by simp)
      simp only [TransRing.Bounded, eq, List.length_cons] at bounded ⊢
      omega
    exact ((((((Dev.calm_setRing (shorter _ _ staging)).trans (Dev.publish_calm ..)).trans (Dev.newHead_calm ..)).trans
      (Dev.judgeFetch_calm ..)).trans (Dev.judgeStopping_calm ..)).trans (Dev.judgeFaulted_calm ..)).trans
      (Dev.judgeFlush_calm ..)
  case h_2 => exact .refl d

theorem Dev.handOver_calm (d : Dev) (c : CrId) (r : RingId) (e : Entry) : d.Calm (d.handOver c r e) := by
  unfold Dev.handOver
  dsimp only
  split
  · exact .refl d
  · exact Dev.postCring_calm ..
  · exact ((Dev.setCring_calm ..).trans (Dev.giveRoom_calm ..)).trans (Dev.doneReport_calm ..)

theorem StationRec.transactionEnd_ends (x : StationRec) (status : TransStatus) (n : Nat) :
    x.Ends (x.transactionEnd status n) := by
  unfold StationRec.transactionEnd
  split
  · exact ⟨rfl, .inr rfl⟩
  · exact .refl x

theorem Dev.endTransaction_calm (d : Dev) (v : HeadView) (f : Final) : d.Calm (d.endTransaction v f) := by
  unfold Dev.endTransaction
  split
  · split
    · exact .refl d
    · exact Dev.calm_setStation (StationRec.transactionEnd_ends ..)
  · exact .refl d

theorem Channel.leaveSelection_waits (r : RingId) (c : Channel) : c.Waits (c.leaveSelection r) := by
  unfold Channel.leaveSelection
  split
  · split
    · exact ⟨rfl, rfl, .inl rfl⟩
    · exact .refl c
  · exact .refl c

/-- A final status assigned is calm: the head no longer waits (R77). -/
theorem Dev.assignFinal_calm (d : Dev) (r : RingId) (f : Final) : d.Calm (d.assignFinal r f) := by
  unfold Dev.assignFinal
  split
  · exact .refl d
  · split
    · exact (((Dev.calm_modHead fun _ => Head.not_waiting_of_final rfl).trans
        (Dev.calm_setChan (Channel.leaveSelection_waits ..))).trans (Dev.endTransaction_calm ..)).trans
        (Dev.handOver_calm ..)
    · exact Dev.calm_modHead fun _ => Head.not_waiting_of_final rfl

theorem Dev.checkDeadline_calm (d : Dev) (r : RingId) : d.Calm (d.checkDeadline r) := by
  unfold Dev.checkDeadline
  split
  · exact .refl d
  · dsimp only
    split
    · exact Dev.assignFinal_calm ..
    · exact .refl d

theorem Dev.checkDeadlines_calm (d : Dev) (ch : ChanId) : d.Calm (d.checkDeadlines ch) := by
  refine Dev.Calm.foldl (fun d r => ?_) _ d
  split
  · exact d.checkDeadline_calm r
  · exact .refl d

theorem Dev.checkQuarantine_calm (d : Dev) (r : RingId) : d.Calm (d.checkQuarantine r) := by
  unfold Dev.checkQuarantine
  split
  · exact .refl d
  · split
    · exact .refl d
    · split
      · exact Dev.assignFinal_calm ..
      · exact .refl d

theorem Dev.checkQuarantines_calm (d : Dev) (ch : ChanId) : d.Calm (d.checkQuarantines ch) := by
  refine Dev.Calm.foldl (fun d r => ?_) _ d
  split
  · exact d.checkQuarantine_calm r
  · exact .refl d

theorem Dev.abortHead_calm (d : Dev) (r : RingId) : d.Calm (d.abortHead r) := by
  unfold Dev.abortHead
  split
  · exact (Dev.assignFinal_calm ..).trans (Dev.judgeStopping_calm ..)
  · exact .refl d

/-! ## Arbitration -/

/-- An IDLE channel stays IDLE through a calm operation or waits. -/
theorem Dev.Calm.selects {d e : Dev} (calm : d.Calm e) {ch : ChanId} (idle : (d.chan ch).state = .idle)
    (s : Option Selection) (now : Moment) :
    d.Calm (e.modChan ch fun c => { c with state := .quietWait, selection := s, since := now }) := by
  have waits : (d.chan ch).Waits { e.chan ch with state := .quietWait, selection := s, since := now } :=
    ⟨by rw [(calm.channels ch).rest], (calm.channels ch).window, .inr ⟨idle, rfl⟩⟩
  refine ⟨calm.same, fun k => ?_, calm.stations, calm.rings,
    calm.answers.trans (.of_same rfl rfl rfl), calm.stops.trans (.of_engine rfl)⟩
  obtain rfl | other := eq_or_ne k ch
  · rwa [Dev.modChan, Dev.chan_setChan_self]
  · rw [Dev.modChan, Dev.chan_setChan_ne _ _ other]
    exact calm.channels k

/-- An arbitration occasion is calm (R37, R90). -/
theorem Dev.arbitrate_calm (d : Dev) (ch : ChanId) : d.Calm (d.arbitrate ch) := by
  unfold Dev.arbitrate
  split
  case h_1 idle _ =>
    split
    · dsimp only
      split
      · exact (d.checkDeadlines_calm ch).selects idle _ _
      · exact d.checkDeadlines_calm ch
    · exact .refl d
  case h_2 => exact .refl d

/-- An IDLE channel acts on its window calmly (R54, R56). -/
theorem Dev.actOnWindow_calm (d : Dev) (ch : ChanId) : d.Calm (d.actOnWindow ch) := by
  unfold Dev.actOnWindow
  split
  case h_1 idle window =>
    split
    · exact d.arbitrate_calm ch
    · split
      · exact Dev.calm_setChan ⟨rfl, by rw [window]; rfl, .inr ⟨idle, rfl⟩⟩
      · exact .refl d
    · exact .refl d
  case h_2 => exact .refl d

/-- Once a station record has changed, what its report causes is calm (R20). -/
theorem Dev.updateStation_calm (d : Dev) (ch : ChanId) (st : StationId) (f : StationRec → StationRec) :
    (d.setStation ch st (f (d.station ch st))).Calm (d.updateStation ch st f) := by
  unfold Dev.updateStation
  dsimp only
  split
  · have checked (e : Dev) (p : Prop) [Decidable p] : e.Calm (if p then e.checkQuarantines ch else e) := by
      split
      · exact e.checkQuarantines_calm ch
      · exact .refl e
    split
    · exact (checked _ _).trans (Dev.arbitrate_calm ..)
    · exact checked _ _
  · exact .refl _

end Sys2Proof.Machine
end

section
/-! PROOFS. What every command but a reset leaves true of the part, said once: `Dev.Evolves`. Each operation is shown to evolve
the part within what the command is licensed to do to its channels; the invariants are read from the theorem about `exec`. -/

namespace Sys2Proof.Machine

/-! ## The relation -/

/-- What a command may do to each channel: take it to SENDING, take it from STUCK, change its cycle counter. -/
structure Licence where
  sends : ChanId → Prop
  leaves : ChanId → Prop
  counts : ChanId → Prop

/-- A channel changes within a licence. -/
structure Licence.Allows (l : Licence) (ch : ChanId) (c e : Channel) : Prop where
  sends : e.state = .sending → c.state = .sending ∨ l.sends ch
  leaves : c.state = .stuck → e.state = .stuck ∨ l.leaves ch
  counts : e.cycle = c.cycle ∨ l.counts ch

/-- A record that is held is not QUARANTINED. -/
def StationRec.HoldSound (x : StationRec) : Prop := x.hold.isSome = true → x.presence ≠ .quarantined

/-- HALTED lasts, with its cause and with the start ended (R164, R165). -/
structure HostPort.Lasts (p q : HostPort) : Prop where
  ended : p.StartEnded → q.StartEnded
  halted : p.part = .halted → p.StartEnded → q.part = .halted ∧ q.haltCause = p.haltCause

/-- The invariants last, and the channels change within the licence. -/
structure Dev.Evolves (l : Licence) (d e : Dev) : Prop where
  channels : ∀ ch, l.Allows ch (d.chan ch) (e.chan ch)
  stations : ∀ ch st, (d.station ch st).HoldSound → (e.station ch st).HoldSound
  rings : ∀ r, (d.ring r).Bounded → (e.ring r).Bounded
  engine : d.engine.Bounded → e.engine.Bounded
  events : d.engine.EventsDistinct → e.engine.EventsDistinct
  port : d.port.Lasts e.port

/-! ## Each is a preorder -/

theorem Licence.Allows.of_same {l : Licence} {ch : ChanId} {c e : Channel} (state : e.state = c.state)
    (cycle : e.cycle = c.cycle) : l.Allows ch c e :=
  ⟨fun sending => .inl (state ▸ sending), fun stuck => .inl (state.trans stuck), .inl cycle⟩

/-- A change to a state other than SENDING by a command that may take the channel from STUCK. -/
theorem Licence.Allows.of_free {l : Licence} {ch : ChanId} {c e : Channel} (quiet : e.state ≠ .sending)
    (free : c.state = .stuck → l.leaves ch) (cycle : e.cycle = c.cycle) : l.Allows ch c e :=
  ⟨fun sending => absurd sending quiet, fun stuck => .inr (free stuck), .inl cycle⟩

theorem Licence.Allows.trans {l : Licence} {ch : ChanId} {a b c : Channel} (h : l.Allows ch a b) (k : l.Allows ch b c) :
    l.Allows ch a c where
  sends sending := (k.sends sending).elim h.sends .inr
  leaves stuck := (h.leaves stuck).elim k.leaves .inr
  counts := k.counts.elim (fun same => h.counts.imp same.trans id) .inr

theorem Channel.Waits.allows {c e : Channel} (waits : c.Waits e) (l : Licence) (ch : ChanId) : l.Allows ch c e := by
  have cycle : e.cycle = c.cycle := by rw [waits.rest]
  obtain same | ⟨idle, quietWait⟩ := waits.state
  · exact .of_same same cycle
  · exact .of_free (by simp [quietWait]) (by simp [idle]) cycle

theorem HostPort.Lasts.of_same {p q : HostPort} (part : q.part = p.part) (cause : q.haltCause = p.haltCause)
    (start : q.start = p.start) : p.Lasts q where
  ended ended := by simpa only [HostPort.StartEnded, part, start] using ended
  halted halted _ := ⟨part.trans halted, cause⟩

/-- A part that is not HALTED may do anything that does not leave it HALTED with a start. -/
theorem HostPort.Lasts.of_up {p q : HostPort} (up : p.StartEnded → p.part ≠ .halted) (ended : q.StartEnded) : p.Lasts q :=
  ⟨fun _ => ended, fun halted ended => absurd halted (up ended)⟩

theorem HostPort.Lasts.trans {a b c : HostPort} (h : a.Lasts b) (k : b.Lasts c) : a.Lasts c where
  ended := k.ended ∘ h.ended
  halted halted ended := by
    obtain ⟨part, cause⟩ := h.halted halted ended
    obtain ⟨part', cause'⟩ := k.halted part (h.ended ended)
    exact ⟨part', cause'.trans cause⟩

theorem StationRec.Ends.holdSound {x y : StationRec} (ends : x.Ends y) (sound : x.HoldSound) : y.HoldSound := by
  have hold : y.hold = x.hold := by rw [ends.rest]
  intro held
  obtain same | unknown := ends.presence
  · rw [same]
    exact sound (hold ▸ held)
  · simp [unknown]

/-- The engine's bound reads the list's length, the phase and the record in hand. -/
theorem Engine.Bounded.congr {a b : Engine} (bounded : a.Bounded) (parked : b.parked.length = a.parked.length)
    (phase : b.phase = a.phase) (hand : b.inHand = a.inHand) : b.Bounded := by
  simpa only [Engine.Bounded, parked, phase, hand] using bounded

variable {l : Licence}

theorem Dev.Evolves.trans {a b c : Dev} (h : a.Evolves l b) (k : b.Evolves l c) : a.Evolves l c where
  channels ch := (h.channels ch).trans (k.channels ch)
  stations ch st := k.stations ch st ∘ h.stations ch st
  rings r := k.rings r ∘ h.rings r
  engine := k.engine ∘ h.engine
  events := k.events ∘ h.events
  port := h.port.trans k.port

theorem Dev.Answers.bounded {d e : Dev} (answers : d.Answers e) (bounded : d.engine.Bounded) : e.engine.Bounded := by
  have length := congrArg List.length answers.records
  rw [List.length_map, List.length_map] at length
  exact bounded.congr length (by rw [answers.engine]) (by rw [answers.engine])

theorem Dev.Answers.distinct {d e : Dev} (answers : d.Answers e) (distinct : d.engine.EventsDistinct) : e.engine.EventsDistinct := by
  rw [Engine.EventsDistinct, answers.engine]
  exact distinct

theorem Dev.Calm.evolves {d e : Dev} (calm : d.Calm e) : d.Evolves l e where
  channels ch := (calm.channels ch).allows l ch
  stations ch st := (calm.stations ch st).holdSound
  rings r := (calm.rings r).bounded
  engine := calm.answers.bounded
  events := calm.answers.distinct
  port :=
    have ⟨_, _, part, cause, _, start⟩ := calm.same
    .of_same part cause start

theorem Dev.Evolves.refl (d : Dev) : d.Evolves l d := (Dev.Calm.refl d).evolves

/-- What changes neither line nor rings nor engine evolves. -/
theorem Dev.Evolves.of_same {d e : Dev} (same : Same d e) (line : SameLine d e) (rings : e.rings = d.rings)
    (engine : e.engine = d.engine) : d.Evolves l e where
  channels ch := .of_same (by rw [Dev.chan_congr line.1]) (by rw [Dev.chan_congr line.1])
  stations ch st := by
    rw [Dev.station_congr line.2]
    exact id
  rings r := by
    rw [Dev.ring_congr rings]
    exact id
  engine := engine ▸ id
  events := engine ▸ id
  port :=
    have ⟨_, _, part, cause, _, start⟩ := same
    .of_same part cause start

theorem Dev.Evolves.foldl {α : Type} {f : Dev → α → Dev} (evolves : ∀ (d : Dev) (x : α), d.Evolves l (f d x)) (xs : List α)
    (d : Dev) : d.Evolves l (xs.foldl f d) := by
  induction xs generalizing d with
  | nil => exact .refl d
  | cons x xs ih => exact (evolves d x).trans (ih _)

/-! ## Updates of one block -/

theorem Dev.tick_evolves (d : Dev) (t : Moment) : d.Evolves l (d.tick t) :=
  ⟨fun _ => .of_same rfl rfl, fun _ _ => id, fun _ => id, id, id, .of_same rfl rfl rfl⟩

theorem Dev.evolves_setEngine {d : Dev} {e : Engine} (bounded : d.engine.Bounded → e.Bounded)
    (events : d.engine.EventsDistinct → e.EventsDistinct) : d.Evolves l (d.setEngine e) :=
  ⟨fun _ => .of_same rfl rfl, fun _ _ => id, fun _ => id, bounded, events, .of_same rfl rfl rfl⟩

theorem Dev.setCcr_evolves (d : Dev) (c : Ccr) : d.Evolves l (d.setCcr c) :=
  ⟨fun _ => .of_same rfl rfl, fun _ _ => id, fun _ => id, id, id, .of_same rfl rfl rfl⟩

theorem Dev.postCcr_evolves (d : Dev) (p : Posting) : d.Evolves l (d.postCcr p) := Dev.setCcr_evolves ..

theorem Dev.evolves_setPort {d : Dev} {p : HostPort} (lasts : d.port.Lasts p) : d.Evolves l (d.setPort p) :=
  ⟨fun _ => .of_same rfl rfl, fun _ _ => id, fun _ => id, id, id, lasts⟩

theorem Dev.setAlert_evolves (d : Dev) (u : AlertUnit) : d.Evolves l (d.setAlert u) :=
  ⟨fun _ => .of_same rfl rfl, fun _ _ => id, fun _ => id, id, id, .of_same rfl rfl rfl⟩

theorem Dev.evolves_setRing {d : Dev} {r : RingId} {x : TransRing} (bounded : (d.ring r).Bounded → x.Bounded) :
    d.Evolves l (d.setRing r x) := by
  refine ⟨fun _ => .of_same rfl rfl, fun _ _ => id, fun k => ?_, id, id, .of_same rfl rfl rfl⟩
  obtain rfl | other := eq_or_ne k r
  · rwa [Dev.ring_setRing_self]
  · rw [Dev.ring_setRing_ne _ _ other]
    exact id

/-- Work on a head leaves the queue as it is. -/
theorem Dev.modHead_evolves (d : Dev) (r : RingId) (f : Head → Head) : d.Evolves l (d.modHead r f) :=
  Dev.evolves_setRing id

theorem Dev.evolves_setChan {d : Dev} {ch : ChanId} {c : Channel} (allows : l.Allows ch (d.chan ch) c) :
    d.Evolves l (d.setChan ch c) := by
  refine ⟨fun k => ?_, fun _ _ => id, fun _ => id, id, id, .of_same rfl rfl rfl⟩
  obtain rfl | other := eq_or_ne k ch
  · rwa [Dev.chan_setChan_self]
  · rw [Dev.chan_setChan_ne _ _ other]
    exact .of_same rfl rfl

theorem Dev.evolves_modChan {d : Dev} {ch : ChanId} {f : Channel → Channel}
    (allows : l.Allows ch (d.chan ch) (f (d.chan ch))) : d.Evolves l (d.modChan ch f) :=
  Dev.evolves_setChan allows

/-- A change of a channel that leaves state and counter. -/
theorem Dev.modChan_evolves {d : Dev} {ch : ChanId} {f : Channel → Channel} (state : ∀ c, (f c).state = c.state)
    (cycle : ∀ c, (f c).cycle = c.cycle) : d.Evolves l (d.modChan ch f) :=
  Dev.evolves_modChan (.of_same (state _) (cycle _))

theorem Dev.evolves_setStation {d : Dev} {ch : ChanId} {st : StationId} {x : StationRec}
    (sound : (d.station ch st).HoldSound → x.HoldSound) : d.Evolves l (d.setStation ch st x) := by
  refine ⟨fun _ => .of_same rfl rfl, fun k j => ?_, fun _ => id, id, id, .of_same rfl rfl rfl⟩
  by_cases own : k = ch ∧ j = st
  · obtain ⟨rfl, rfl⟩ := own
    rwa [Dev.station_setStation_self]
  · rw [Dev.station_setStation_ne _ _ (not_and_or.1 own)]
    exact id

/-! ## Station records (R22 to R30) -/

theorem StationRec.holdSound_of_no_hold {x : StationRec} (free : x.hold = none) : x.HoldSound := by
  simp [StationRec.HoldSound, free]

theorem StationRec.holdSound_of_presence {x : StationRec} (awake : x.presence ≠ .quarantined) : x.HoldSound := fun _ => awake

theorem StationRec.fail_holdSound {x : StationRec} (awake : x.presence ≠ .quarantined) (stale : Bool) :
    (x.fail stale).HoldSound := by
  unfold StationRec.fail
  dsimp only
  split
  · exact holdSound_of_no_hold rfl
  · refine holdSound_of_presence ?_
    cases stale
    · exact awake
    · simp

theorem StationRec.verdict_holdSound {x : StationRec} (sound : x.HoldSound) (cycle : Cycle) (v : Verdict) :
    (x.verdict cycle v).HoldSound := by
  have failed (stale : Bool) : (if x.presence = .quarantined then x else x.fail stale).HoldSound := by
    split
    · exact sound
    · exact fail_holdSound ‹_› stale
  cases v with
  | validAck _ => exact holdSound_of_presence (by simp [StationRec.verdict])
  | validNak _ => exact holdSound_of_presence (by simp [StationRec.verdict])
  | validHold q =>
    refine holdSound_of_presence ?_
    simp only [StationRec.verdict]
    split <;> simp_all
  | stale => exact failed true
  | garbled => exact failed false
  | none => exact failed false

theorem StationRec.expire_holdSound {x : StationRec} (sound : x.HoldSound) (cycle : Cycle) :
    (x.expire cycle).HoldSound := by
  unfold StationRec.expire
  split
  · split
    · exact sound
    · exact holdSound_of_no_hold rfl
  · exact sound

theorem StationRec.alert_holdSound {x : StationRec} (sound : x.HoldSound) (code : Byte) : (x.alert code).HoldSound := by
  unfold StationRec.alert
  split
  · split
    · exact holdSound_of_no_hold rfl
    · exact sound
  · split
    · exact holdSound_of_presence (by simp)
    · exact sound

theorem StationRec.channelReset_holdSound {x : StationRec} (sound : x.HoldSound) : x.channelReset.HoldSound := by
  unfold StationRec.channelReset
  split
  · exact holdSound_of_no_hold rfl
  · exact sound

theorem StationRec.hold_release (x : StationRec) : x.release.hold = none := by
  unfold StationRec.release
  dsimp only
  split <;> rfl

/-- A rule of the station table that keeps a record sound keeps the part so, with all that its report causes (R20). -/
theorem Dev.updateStation_evolves (d : Dev) (ch : ChanId) (st : StationId) {f : StationRec → StationRec}
    (sound : ∀ x : StationRec, x.HoldSound → (f x).HoldSound) : d.Evolves l (d.updateStation ch st f) :=
  (Dev.evolves_setStation (sound _)).trans (d.updateStation_calm ch st f).evolves

theorem Dev.completeParked_evolves (d : Dev) (p : Command → Bool) (status : ControlStatus) (n : Nat) :
    d.Evolves l (d.completeParked p status n) :=
  have ⟨⟨_, _, part, cause, _, start⟩, ⟨channels, stations⟩, ⟨rings, _⟩, _⟩ := d.completeParked_keeps p status n
  have answers := d.completeParked_answers p status n
  { channels := fun ch => Dev.chan_congr channels ch ▸ .of_same rfl rfl
    stations := fun ch st => Dev.station_congr stations ch st ▸ id
    rings := fun r => Dev.ring_congr rings r ▸ id
    engine := answers.bounded
    events := answers.distinct
    port := .of_same part cause start }

theorem Dev.applyParkedStation_evolves (d : Dev) (ch : ChanId) (st : StationId) :
    d.Evolves l (d.applyParkedStation ch st) := by
  refine Dev.Evolves.foldl (fun d k => ?_) _ d
  split
  · split
    · split
      · exact (d.updateStation_evolves ch st fun x _ => StationRec.holdSound_of_no_hold rfl).trans
          (Dev.completeParked_evolves ..)
      · exact .refl d
    · split
      · exact (d.updateStation_evolves ch st fun x _ => StationRec.holdSound_of_no_hold x.hold_release).trans
          (Dev.completeParked_evolves ..)
      · exact .refl d
    · exact .refl d
  · exact .refl d

theorem Dev.stationVerdict_evolves (d : Dev) (ch : ChanId) (st : StationId) (v : Verdict) :
    d.Evolves l (d.stationVerdict ch st v) := by
  refine ((d.updateStation_evolves ch st ?_).trans (Dev.evolves_setStation ?_)).trans (Dev.applyParkedStation_evolves ..)
  · exact fun _ sound => StationRec.verdict_holdSound sound _ v
  · exact fun sound => sound

theorem Dev.expireHolds_evolves (d : Dev) (ch : ChanId) : d.Evolves l (d.expireHolds ch) :=
  .foldl (fun d st => d.updateStation_evolves ch st fun _ sound => StationRec.expire_holdSound sound _) _ d

theorem Dev.dropHolds_evolves (d : Dev) (ch : ChanId) : d.Evolves l (d.dropHolds ch) :=
  .foldl (fun d st => d.updateStation_evolves ch st fun _ _ => StationRec.holdSound_of_no_hold rfl) _ d

theorem Dev.resetStations_evolves (d : Dev) (ch : ChanId) : d.Evolves l (d.resetStations ch) :=
  .foldl (fun _ _ => Dev.evolves_setStation StationRec.channelReset_holdSound) _ d

/-! ## The control engine and the pending events (R143, R148, R151) -/

theorem Dev.completeInHand_evolves (d : Dev) (status : ControlStatus) (n : Nat) (payload : List Byte) :
    d.Evolves l (d.completeInHand status n payload) := by
  unfold Dev.completeInHand
  split
  case h_1 => exact .refl d
  case h_2 r hand =>
    refine (Dev.evolves_setEngine (fun bounded => ?bounded) ?events).trans (Dev.postCcr_evolves ..)
    case bounded =>
      obtain ⟨room, awake⟩ := bounded
      have busy : d.engine.phase ≠ .idle := awake (by simp [hand])
      simpa [Engine.Bounded, busy] using room
    case events => exact id

theorem Dev.parkInHand_evolves (d : Dev) (note : ParkNote) : d.Evolves l (d.parkInHand note) := by
  unfold Dev.parkInHand
  split
  case h_1 => exact .refl d
  case h_2 r hand =>
    refine Dev.evolves_setEngine (fun bounded => ?_) id
    obtain ⟨room, awake⟩ := bounded
    have busy : d.engine.phase ≠ .idle := awake (by simp [hand])
    simpa [Engine.Bounded, busy] using room

theorem Dev.requestCcr_evolves (d : Dev) : d.Evolves l d.requestCcr :=
  have ⟨same, line, ⟨rings, _⟩, _, engine⟩ := d.requestCcr_keeps
  .of_same same line rings engine

theorem Dev.judgeEngine_evolves (d : Dev) : d.Evolves l d.judgeEngine := by
  unfold Dev.judgeEngine
  split
  · split
    case h_1 idle =>
      split
      case isTrue room =>
        refine (Dev.evolves_setEngine (fun _ => ?bounded) ?events).trans (Dev.requestCcr_evolves _)
        case bounded => exact ⟨room, fun _ => by simp⟩
        case events => exact id
      case isFalse => exact .refl d
    case h_2 reserved =>
      exact Dev.evolves_setEngine (fun bounded => by simpa [Engine.Bounded, reserved] using bounded) id
    case h_3 => exact .refl d
  · exact .refl d

theorem Dev.park_evolves (d : Dev) (note : ParkNote) : d.Evolves l (d.park note) :=
  (d.parkInHand_evolves note).trans (Dev.judgeEngine_evolves _)

theorem Dev.answerLater_evolves (d : Dev) : d.Evolves l d.answerLater := Dev.evolves_setEngine id id

theorem Dev.postEvents_evolves (d : Dev) (n : Nat) : d.Evolves l (d.postEvents n) := by
  induction n generalizing d with
  | zero => exact .refl d
  | succ n ih =>
    unfold Dev.postEvents
    split
    case h_1 => exact .refl d
    case h_2 e rest events =>
      refine ((Dev.evolves_setEngine ?bounded fun distinct => ?events).trans (Dev.postCcr_evolves ..)).trans (ih _)
      case bounded => exact id
      case events =>
        rw [Engine.EventsDistinct, events] at distinct
        exact distinct.of_cons

theorem Dev.drainEvents_evolves (d : Dev) : d.Evolves l d.drainEvents := by
  unfold Dev.drainEvents
  split
  · exact d.postEvents_evolves _
  · exact .refl d

theorem Dev.giveCcrRoom_evolves (d : Dev) : d.Evolves l d.giveCcrRoom :=
  have ⟨same, line, ⟨rings, _⟩, _, engine⟩ := d.drainEvents.grantEngine_keeps
  d.drainEvents_evolves.trans (.of_same same line rings engine)

/-- Events counted again keep kind and object. -/
theorem Event.same_again (kind : EventKind) (object : Nat) (a b : Event) :
    (a.again kind object).same (b.again kind object).kind (b.again kind object).object = a.same b.kind b.object := by
  have kept (e : Event) : (e.again kind object).kind = e.kind ∧ (e.again kind object).object = e.object := by
    unfold Event.again
    split <;> exact ⟨rfl, rfl⟩
  simp only [Event.same, kept]

/-- A fault entered is pending once (R143). -/
theorem Dev.enterEvent_evolves (d : Dev) (kind : EventKind) (object : Nat) : d.Evolves l (d.enterEvent kind object) := by
  unfold Dev.enterEvent
  split
  case isTrue =>
    refine Dev.evolves_setEngine id fun distinct => ?_
    rw [Engine.EventsDistinct, List.pairwise_map]
    simpa only [Event.same_again, Engine.EventsDistinct] using distinct
  case isFalse fresh =>
    refine (Dev.evolves_setEngine ?bounded fun distinct => ?events).trans (Dev.drainEvents_evolves _)
    case bounded => exact id
    case events =>
      refine List.pairwise_append.2 ⟨distinct, List.pairwise_singleton .., fun a mem b last => ?_⟩
      obtain rfl := List.mem_singleton.1 last
      exact fun again => fresh (List.any_eq_true.2 ⟨a, mem, again⟩)

/-! ## Channels that stop, and the halt (R45, R47, R165) -/

/-- A channel that enters OFF. -/
theorem Dev.stopChannel_evolves (d : Dev) {ch : ChanId} (free : (d.chan ch).state = .stuck → l.leaves ch) :
    d.Evolves l (d.stopChannel ch) :=
  (Dev.evolves_modChan (.of_free (by simp [Channel.toOff]) free rfl)).trans (Dev.completeParked_evolves ..)

theorem Channel.not_stuck_of_stopsAtOnce {c : Channel} (stops : c.stopsAtOnce = true) : c.state ≠ .stuck := by
  intro stuck
  simp [Channel.stopsAtOnce, stuck] at stops

theorem Dev.windDown_evolves (d : Dev) (ch : ChanId) : d.Evolves l (d.windDown ch) := by
  unfold Dev.windDown
  split
  case isTrue stops => exact d.stopChannel_evolves fun stuck => absurd stuck (Channel.not_stuck_of_stopsAtOnce stops)
  case isFalse => exact .refl d

theorem Dev.halt_evolves (d : Dev) (cause : HaltCause) : d.Evolves l (d.halt cause) := by
  unfold Dev.halt
  split
  case isTrue up =>
    have ends : d.port.Lasts { d.port with part := .halted, haltCause := cause, start := .none } :=
      .of_up (fun _ halted => by simp [halted] at up) fun _ => rfl
    refine ((Dev.evolves_setPort ends).trans (Dev.evolves_setPort ?_)).trans (.foldl Dev.windDown_evolves _ _)
    exact .of_same rfl rfl rfl
  case isFalse => exact .refl d

/-! ## Entries to the channel states (R37, R42, R43) -/

theorem Dev.enterIdle_evolves (d : Dev) {ch : ChanId} (free : (d.chan ch).state = .stuck → l.leaves ch) :
    d.Evolves l (d.enterIdle ch) := by
  unfold Dev.enterIdle
  split
  · exact Dev.evolves_modChan (.of_free (by simp [Channel.toOff]) free rfl)
  · exact (Dev.evolves_modChan (.of_free (by simp [Channel.toIdle]) free rfl)).trans
      (Dev.actOnWindow_calm ..).evolves

theorem Dev.activityOver_evolves (d : Dev) {ch : ChanId} (free : (d.chan ch).state = .stuck → l.leaves ch) :
    d.Evolves l (d.activityOver ch) := by
  unfold Dev.activityOver
  split
  · exact d.stopChannel_evolves free
  · exact d.enterIdle_evolves free

theorem Dev.enterStuck_evolves (d : Dev) {ch : ChanId} (free : (d.chan ch).state = .stuck → l.leaves ch) :
    d.Evolves l (d.enterStuck ch) := by
  unfold Dev.enterStuck
  split
  · exact d.stopChannel_evolves free
  · exact ((Dev.evolves_modChan (.of_free (by simp) free rfl)).trans (Dev.enterEvent_evolves ..)).trans
      (Dev.completeParked_evolves ..)

@[simp] theorem Channel.account_keeps (c : Channel) (m : Moment) :
    (c.account m).state = c.state ∧ (c.account m).cycle = c.cycle := by
  unfold Channel.account
  split
  · simp
  · split <;> simp

@[simp] theorem Channel.cross_keeps (c : Channel) : c.cross.state = c.state ∧ c.cross.cycle = c.cycle := by
  unfold Channel.cross
  split
  · split <;> simp
  · simp

theorem Dev.headVerdict_evolves (d : Dev) (r : RingId) (v : Verdict) (quarantined lineFault : Bool) :
    d.Evolves l (d.headVerdict r v quarantined lineFault) := by
  unfold Dev.headVerdict
  split
  · exact .refl d
  · dsimp only
    split
    · exact ((Dev.modHead_evolves ..).trans (Dev.assignFinal_calm ..).evolves).trans (Dev.judgeStopping_calm ..).evolves
    · exact ((Dev.modHead_evolves ..).trans (Dev.modHead_evolves ..)).trans (Dev.judgeStopping_calm ..).evolves

/-- The end of an attempt leaves its channel where it is, for the state it enters next. -/
theorem Dev.finishAttempt_evolves (d : Dev) (ch : ChanId) (v : Verdict) (m : Moment) (lineFault : Bool) :
    d.Evolves l (d.finishAttempt ch v m lineFault) := by
  unfold Dev.finishAttempt
  split
  · exact .refl d
  · have counted : d.Evolves l (d.modChan ch fun c => { c with counters := c.counters.verdict v }.account m) :=
      Dev.modChan_evolves (by simp) (by simp)
    dsimp only
    refine .trans ?_ (Dev.modChan_evolves (fun _ => rfl) fun _ => rfl)
    split
    · exact (counted.trans (Dev.stationVerdict_evolves ..)).trans (Dev.headVerdict_evolves ..)
    · exact counted.trans (Dev.headVerdict_evolves ..)
    · exact counted

/-! ## Attempts (R38, R94) -/

theorem Licence.Allows.of_sends {l : Licence} {ch : ChanId} {c e : Channel} (sends : l.sends ch)
    (free : c.state = .stuck → l.leaves ch) (cycle : e.cycle = c.cycle) : l.Allows ch c e :=
  ⟨fun _ => .inr sends, fun stuck => .inr (free stuck), .inl cycle⟩

theorem Dev.startAttempt_evolves (d : Dev) {ch : ChanId} (r : RingId) (v : HeadView) (w : WindowRec) (sends : l.sends ch)
    (free : (d.chan ch).state = .stuck → l.leaves ch) : d.Evolves l (d.startAttempt ch r v w) := by
  unfold Dev.startAttempt
  dsimp only
  split
  · refine ((Dev.modHead_evolves ..).trans (Dev.evolves_setStation ?_)).trans
      (Dev.evolves_modChan (.of_sends sends free rfl))
    exact fun sound => sound
  · exact (Dev.modHead_evolves ..).trans (Dev.evolves_modChan (.of_sends sends free rfl))

theorem Dev.checkSelection_evolves (d : Dev) {ch : ChanId} (sends : l.sends ch)
    (free : (d.chan ch).state = .stuck → l.leaves ch) : d.Evolves l (d.checkSelection ch) := by
  unfold Dev.checkSelection
  split
  · split
    · split
      · exact d.startAttempt_evolves _ _ _ sends free
      · exact d.enterIdle_evolves free
    · exact d.enterIdle_evolves free
  · split
    · exact Dev.evolves_modChan (.of_sends sends free rfl)
    · exact d.enterIdle_evolves free
  · exact d.enterIdle_evolves free

theorem Dev.faultSelected_evolves (d : Dev) (s : Option Selection) : d.Evolves l (d.faultSelected s) := by
  unfold Dev.faultSelected
  split
  · split
    · split
      · exact (Dev.assignFinal_calm ..).evolves
      · exact .refl d
    · exact .refl d
  · exact .refl d

/-! ## Windows and cycles (R51 to R54) -/

theorem Dev.takeWindow_evolves (d : Dev) (ch : ChanId) (w : Option WindowRec) : d.Evolves l (d.takeWindow ch w) := by
  unfold Dev.takeWindow
  dsimp only
  refine .trans (b := d.modChan ch fun c => { c.cross with window := w })
    (Dev.modChan_evolves (by simp) (by simp)) ?_
  split
  · exact (Dev.actOnWindow_calm ..).evolves
  case h_2 state _ =>
    split
    · exact Dev.enterIdle_evolves _ fun stuck => nomatch state.symm.trans stuck
    · exact Dev.modChan_evolves (fun _ => rfl) fun _ => rfl
  · exact .refl _

theorem Dev.swapIfDue_evolves (d : Dev) (ch : ChanId) : d.Evolves l (d.swapIfDue ch) := by
  unfold Dev.swapIfDue
  split
  · exact (Dev.modChan_evolves (f := Channel.swap _) (fun _ => rfl) fun _ => rfl).trans (Dev.completeParked_evolves ..)
  · exact .refl d

theorem Dev.cycleSteps_evolves (d : Dev) (ch : ChanId) (t : Moment) : d.Evolves l (d.cycleSteps ch t) := by
  unfold Dev.cycleSteps
  refine ((((d.swapIfDue_evolves ch).trans (Dev.expireHolds_evolves ..)).trans (Dev.checkDeadlines_calm ..).evolves).trans
    (Dev.modChan_evolves ?state ?cycle)).trans (Dev.takeWindow_evolves ..)
  case state => exact fun _ => rfl
  case cycle => exact fun _ => rfl

end Sys2Proof.Machine
end

section
/-! PROOFS. The commands evolve the part, each within its licence, and the invariants of the whole part follow: O54 to O60. -/

namespace Sys2Proof.Machine

variable {l : Licence}

/-! ## The register window and the grants -/

theorem Dev.resetEnd_evolves (d : Dev) : d.Evolves l d.resetEnd := by
  unfold Dev.resetEnd
  split
  case isTrue ends =>
    have up : d.port.part ≠ .halted := by simp_all [Dev.resetting]
    refine ⟨fun ch => ?_, fun _ _ => id, fun _ => id, id, id, .of_up (fun _ => up) ?_⟩
    · refine .of_same ?_ ?_ <;> simp [Dev.chan, Channel.quietFrom]
    · exact fun halted => nomatch halted
  case isFalse => exact .refl d

theorem Dev.start_evolves {d : Dev} (up : d.port.part ≠ .halted) : d.Evolves l d.start := by
  have starts : d.Evolves l (d.setPort { d.port with part := .starting, resetCause := .none }) :=
    Dev.evolves_setPort (.of_up (fun _ => up) fun halted => nomatch halted)
  unfold Dev.start
  dsimp only
  split
  · refine starts.trans (Dev.evolves_setPort (.of_up (fun _ halted => nomatch halted) ?_))
    exact fun halted => nomatch halted
  · exact starts.trans (Dev.halt_evolves ..)

theorem Dev.writeEnable_evolves (d : Dev) (enable : Bool) : d.Evolves l (d.writeEnable enable) := by
  unfold Dev.writeEnable
  split
  · exact .refl d
  · have stored : d.Evolves l (d.setPort { d.port with enable := enable }) := Dev.evolves_setPort (.of_same rfl rfl rfl)
    dsimp only
    split
    · split
      case h_1 disabled =>
        refine stored.trans (Dev.start_evolves fun halted => ?_)
        exact nomatch disabled.symm.trans halted
      case h_2 => exact stored.trans (Dev.judgeEngine_evolves _)
      case h_3 | h_4 | h_5 => exact stored
    · exact stored

theorem Dev.clearCauses_evolves (d : Dev) (value : Word) : d.Evolves l (d.clearCauses value) := by
  unfold Dev.clearCauses
  split
  · exact .refl d
  · exact Dev.evolves_setPort (.of_same rfl rfl rfl)

theorem Dev.writeMask_evolves (d : Dev) (value : Word) : d.Evolves l (d.writeMask value) := by
  unfold Dev.writeMask
  split
  · exact .refl d
  · exact Dev.evolves_setPort (.of_same rfl rfl rfl)

theorem Dev.postRing_evolves (d : Dev) (r : RingId) (index : Nat) : d.Evolves l (d.postRing r index) := by
  unfold Dev.postRing
  dsimp only
  split
  · split
    · refine (Dev.evolves_setRing ?_).trans (Dev.judgeFetch_calm ..).evolves
      exact id
    · exact .refl d
  · exact .refl d

theorem Dev.postControl_evolves (d : Dev) (index : Nat) : d.Evolves l (d.postControl index) := by
  unfold Dev.postControl
  split
  · refine (Dev.evolves_setEngine ?_ ?_).trans (Dev.judgeEngine_evolves _)
    · exact id
    · exact id
  · exact .refl d

theorem Dev.freeCring_evolves (d : Dev) (c : CrId) (index : Nat) : d.Evolves l (d.freeCring c index) := by
  unfold Dev.freeCring
  dsimp only
  split
  · exact ((Dev.setCring_calm ..).trans (Dev.giveRoom_calm ..)).evolves
  · exact .refl d

theorem Dev.freeCcr_evolves (d : Dev) (index : Nat) : d.Evolves l (d.freeCcr index) := by
  unfold Dev.freeCcr
  split
  · exact (Dev.setCcr_evolves ..).trans (Dev.giveCcrRoom_evolves _)
  · exact .refl d

theorem Dev.writePost_evolves (d : Dev) (value : Word) : d.Evolves l (d.writePost value) := by
  unfold Dev.writePost
  dsimp only
  split
  · exact d.postRing_evolves _ _
  · split
    · exact d.postControl_evolves _
    · exact .refl d

theorem Dev.writeFree_evolves (d : Dev) (value : Word) : d.Evolves l (d.writeFree value) := by
  unfold Dev.writeFree
  dsimp only
  split
  · exact d.freeCring_evolves _ _
  · split
    · exact d.freeCcr_evolves _
    · exact .refl d

/-- A write of CONTROL with RESET 1 starts a reset or is ignored (R163). -/
theorem Dev.controllerReset_cases (d : Dev) : d.controllerReset = d ∨ d.controllerReset = d.reset .controller := by
  unfold Dev.controllerReset
  split
  · exact .inl rfl
  · exact .inr rfl

theorem Dev.writeRegister_cases (d : Dev) (offset : BitVec 6) (bytes : Nat) (value : Word) :
    d.writeRegister offset bytes value = d.reset .controller ∨ d.Evolves l (d.writeRegister offset bytes value) := by
  unfold Dev.writeRegister
  split
  · exact .inr (.refl d)
  · split
    case h_1 =>
      split
      · obtain same | reset := d.controllerReset_cases
        · rw [same]
          exact .inr (.refl d)
        · exact .inl reset
      · exact .inr (d.writeEnable_evolves _)
    case h_2 => exact .inr (d.clearCauses_evolves _)
    case h_3 => exact .inr (d.writeMask_evolves _)
    case h_4 => exact .inr (Dev.evolves_setPort (.of_same rfl rfl rfl))
    case h_5 => exact .inr (Dev.evolves_setPort (.of_same rfl rfl rfl))
    case h_6 => exact .inr (d.writePost_evolves _)
    case h_7 => exact .inr (d.writeFree_evolves _)
    case h_8 => exact .inr (.refl d)

theorem Dev.setGrants_evolves (d : Dev) (grants : List Grant) : d.Evolves l { d with grants := grants } :=
  .of_same (by simp [Same]) (by simp [SameLine]) rfl rfl

theorem Dev.takeGrant_evolves (d : Dev) (r : RingId) : d.Evolves l (d.takeGrant r) := by
  unfold Dev.takeGrant
  split
  case h_1 => exact .refl d
  case h_2 g _ =>
    have spent := d.setGrants_evolves (l := l) (d.grants.eraseP fun g => g.ring == r)
    dsimp only
    split
    · refine (spent.trans (Dev.modHead_evolves _ r fun h => { h with reservation := .held })).trans ?_
      split
      · exact (Dev.assignFinal_calm ..).evolves
      · split
        · exact (Dev.assignFinal_calm ..).evolves
        · split
          · exact (Dev.assignFinal_calm ..).evolves
          · split
            · exact (((Dev.arbitrate_calm ..).trans (Dev.checkDeadline_calm ..)).trans
                (Dev.checkQuarantine_calm ..)).evolves
            · exact ((Dev.checkDeadline_calm ..).trans (Dev.checkQuarantine_calm ..)).evolves
    · exact spent

theorem Dev.takeCcrGrant_evolves (d : Dev) : d.Evolves l d.takeCcrGrant := by
  unfold Dev.takeCcrGrant
  split
  case isTrue granted =>
    obtain ⟨-, reserving⟩ := granted
    refine ((Dev.setCcr_evolves ..).trans (Dev.evolves_setEngine ?bounded ?events)).trans (Dev.judgeEngine_evolves _)
    case bounded => exact fun bounded => by simpa [Engine.Bounded, reserving] using bounded
    case events => exact id
  case isFalse => exact .refl d

/-! ## The memory port -/

theorem Dev.drainOne_evolves (d : Dev) (p : PortOp → Bool) : d.Evolves l (d.drainOne p) :=
  Dev.evolves_setPort (.of_same rfl rfl rfl)

/-- A start in progress is one of a part that is up (R164). -/
theorem HostPort.StartEnded.up {p : HostPort} (ended : p.StartEnded) (starting : p.start ≠ .none) : p.part ≠ .halted :=
  fun halted => starting (ended halted)

theorem Dev.rootData_evolves (d : Dev) (data : Record) : d.Evolves l (d.rootData data) := by
  unfold Dev.rootData
  split
  · exact d.drainOne_evolves _
  · split
    case h_1 reading =>
      have starting : d.port.start ≠ .none := by simp [reading]
      split
      · refine ((Dev.evolves_setPort ⟨fun ended halted => ?_, fun halted ended => ?_⟩).trans
          (Dev.publish_calm ..).evolves).trans (Dev.publish_calm ..).evolves
        · exact absurd halted (ended.up starting)
        · exact absurd halted (ended.up starting)
      · exact d.halt_evolves _
    case h_2 => exact .refl d

theorem Dev.rootError_evolves (d : Dev) : d.Evolves l d.rootError := by
  unfold Dev.rootError
  split
  · exact d.drainOne_evolves _
  · split
    · exact d.halt_evolves _
    · exact .refl d

/-- A record read takes the place in the queue that its read has kept (R71, R72). -/
theorem Dev.recordData_evolves (d : Dev) (r : RingId) (data : Record) : d.Evolves l (d.recordData r data) := by
  unfold Dev.recordData
  split
  · exact d.drainOne_evolves _
  · dsimp only
    split
    case h_1 read b reading _ =>
      let x : TransRing := (d.ring r).taken b.size read.slot data (d.ring r).head
      have taken : d.Evolves l (d.setRing r x) :=
        Dev.evolves_setRing fun bounded => by simpa [x, TransRing.taken, TransRing.Bounded, reading] using bounded
      refine taken.trans ?_
      split
      · exact (((Dev.newHead_calm ..).trans (Dev.judgeFetch_calm ..)).trans (Dev.judgeStopping_calm ..)).evolves
      · exact ((Dev.judgeFetch_calm ..).trans (Dev.judgeStopping_calm ..)).evolves
    case h_2 => exact .refl d

theorem TransRing.Bounded.idle {x y : TransRing} (bounded : x.Bounded) (staging : y.staging = x.staging)
    (idle : y.reading = none) : y.Bounded := by
  simp only [TransRing.Bounded, staging, idle] at bounded ⊢
  exact le_trans (Nat.add_le_add_left (by simp) _) bounded

theorem Dev.recordError_evolves (d : Dev) (r : RingId) : d.Evolves l (d.recordError r) := by
  unfold Dev.recordError
  split
  · exact d.drainOne_evolves _
  · dsimp only
    split
    · refine ((Dev.evolves_setRing ?_).trans (Dev.enterEvent_evolves ..)).trans (Dev.judgeStopping_calm ..).evolves
      exact fun bounded => bounded.idle rfl rfl
    · exact .refl d

theorem Dev.controlData_evolves (d : Dev) (data : Record) : d.Evolves l (d.controlData data) := by
  unfold Dev.controlData
  split
  · exact d.drainOne_evolves _
  · split
    case isTrue => exact .refl d
    case isFalse read =>
      have reading : d.engine.phase = .reading := not_not.1 read
      split
      · refine Dev.evolves_setEngine (fun bounded => ?_) id
        simpa [Engine.Bounded, reading] using bounded
      · have taken : d.Evolves l (d.setEngine { d.engine with
            inHand := some data, read := advance d.engine.size d.engine.read 1, phase := .acting, answering := false }) :=
          Dev.evolves_setEngine (fun bounded => by simpa [Engine.Bounded, reading] using bounded.1) id
        have published := taken.trans (Dev.publish_calm _ fieldCtl (advance d.engine.size d.engine.read 1) .plain).evolves
        dsimp only
        split
        · exact published
        · exact published.trans (Dev.completeInHand_evolves ..)

theorem Dev.controlError_evolves (d : Dev) : d.Evolves l d.controlError := by
  unfold Dev.controlError
  split
  · exact d.drainOne_evolves _
  · split
    case isTrue => exact .refl d
    case isFalse read =>
      have reading : d.engine.phase = .reading := not_not.1 read
      refine (Dev.evolves_setEngine (fun bounded => ?bounded) ?events).trans (Dev.halt_evolves ..)
      case bounded => simpa [Engine.Bounded, reading] using bounded
      case events => exact id

theorem Dev.readLimit_evolves (d : Dev) (op : ReadOp) : d.Evolves l (d.readLimit op) := by
  unfold Dev.readLimit
  split
  · exact .refl d
  · cases op with
    | root => exact (d.tick_evolves _).trans (Dev.rootError_evolves _)
    | record r => exact (d.tick_evolves _).trans (Dev.recordError_evolves _ r)
    | control => exact (d.tick_evolves _).trans (Dev.controlError_evolves _)

theorem Dev.setSlots_evolves (d : Dev) (s : Slots) (ring : EntryRing) : d.Evolves l (d.setSlots s ring) := by
  cases ring with
  | cr c => exact (Dev.setCring_calm ..).evolves
  | ccr => exact Dev.setCcr_evolves ..

theorem Dev.entryEnd_evolves (d : Dev) (ring : EntryRing) : d.Evolves l (d.entryEnd ring) := by
  unfold Dev.entryEnd
  split
  · exact d.drainOne_evolves _
  · split
    · exact .refl d
    · split
      · exact d.setSlots_evolves _ _
      · exact (d.setSlots_evolves _ _).trans (Dev.publish_calm ..).evolves

theorem Dev.reportDiscarded_calm (d : Dev) (posting : List Posting) : d.Calm (d.reportDiscarded posting) := by
  refine Dev.Calm.foldl (fun d p => ?_) posting d
  split
  · exact d.doneReport_calm _
  · exact .refl d

theorem Dev.entryError_evolves (d : Dev) (c : CrId) : d.Evolves l (d.entryError c) := by
  unfold Dev.entryError
  split
  · exact d.drainOne_evolves _
  · dsimp only
    split
    · exact .refl d
    · exact ((((Dev.setCring_calm ..).trans (Dev.reportDiscarded_calm ..)).evolves).trans
        (Dev.enterEvent_evolves ..)).trans (Dev.giveRoom_calm ..).evolves

theorem Dev.ccrError_evolves (d : Dev) : d.Evolves l d.ccrError := by
  unfold Dev.ccrError
  split
  · exact d.drainOne_evolves _
  · split
    · exact .refl d
    · exact (Dev.setCcr_evolves ..).trans (Dev.halt_evolves ..)

theorem Dev.run_evolves {d : Dev} (up : d.port.StartEnded → d.port.part ≠ .halted) (root : RootRecord) :
    d.Evolves l (d.run root) := by
  unfold Dev.run
  refine (((Dev.evolves_setEngine ?bounded ?events).trans (Dev.setCcr_evolves ..)).trans
    (Dev.evolves_setPort ?lasts)).trans (Dev.judgeEngine_evolves _)
  case bounded => exact id
  case events => exact id
  case lasts => exact .of_up up fun _ => rfl

theorem Dev.startWritten_evolves (d : Dev) : d.Evolves l d.startWritten := by
  unfold Dev.startWritten
  split
  case h_1 root left publishing =>
    have up : d.port.StartEnded → d.port.part ≠ .halted := fun ended => ended.up (by simp [publishing])
    split
    · exact Dev.run_evolves up root
    · exact Dev.evolves_setPort ⟨fun ended halted => absurd halted (up ended), fun halted ended => absurd halted (up ended)⟩
  case h_2 => exact .refl d

/-- The command taken from the list leaves it no longer. -/
theorem length_dropPosted_le (r : Record) (parked : List Parked) : (dropPosted r parked).length ≤ parked.length := by
  induction parked with
  | nil => exact le_rfl
  | cons k rest ih =>
    unfold dropPosted
    split
    · exact Nat.le_succ _
    · exact Nat.succ_le_succ ih

theorem Dev.entryDone_evolves (d : Dev) (source : EntrySource) : d.Evolves l (d.entryDone source) := by
  cases source with
  | transaction r => exact (d.doneReport_calm r).evolves
  | inHand =>
    refine (Dev.evolves_setEngine (fun bounded => ?bounded) ?events).trans (Dev.judgeEngine_evolves _)
    case bounded =>
      obtain ⟨room, -⟩ := bounded
      exact ⟨by simpa using le_trans (Nat.le_add_right _ _) room, by simp⟩
    case events => exact id
  | parked record =>
    refine (Dev.evolves_setEngine (fun bounded => ?bounded) ?events).trans (Dev.judgeEngine_evolves _)
    case bounded =>
      obtain ⟨room, awake⟩ := bounded
      exact ⟨le_trans (Nat.add_le_add_right (length_dropPosted_le ..) _) room, awake⟩
    case events => exact id
  | event => exact .refl d
  | alert => exact .refl d
  | alertsLost => exact .refl d

theorem Dev.setCause_evolves (d : Dev) (bit : Nat) : d.Evolves l (d.setCause bit) :=
  Dev.evolves_setPort (.of_same rfl rfl rfl)

theorem Dev.setField_evolves (d : Dev) (f : FieldId) (q : FieldQueue) : d.Evolves l (d.setField f q) :=
  Dev.evolves_setPort (.of_same rfl rfl rfl)

theorem Dev.published_evolves (d : Dev) (ring : EntryRing) : d.Evolves l (d.published ring) := by
  unfold Dev.published
  split
  · exact .refl d
  · split
    · exact ((d.setCause_evolves _).trans (Dev.setSlots_evolves ..)).trans (Dev.entryDone_evolves ..)
    · exact .refl d

theorem Dev.statusReport_evolves (d : Dev) (p : Purpose) : d.Evolves l (d.statusReport p) := by
  cases p with
  | plain => exact .refl d
  | start => exact d.startWritten_evolves
  | publish ring => exact d.published_evolves ring
  | ringSetup => exact d.completeInHand_evolves _ _ _
  | flush r n => exact d.completeParked_evolves _ _ _
  | cringSetup n => exact d.completeInHand_evolves _ _ _

theorem Dev.statusEnd_evolves (d : Dev) (f : FieldId) : d.Evolves l (d.statusEnd f) := by
  unfold Dev.statusEnd
  split
  · exact d.drainOne_evolves _
  · split
    · exact .refl d
    · exact (d.setField_evolves f _).trans (Dev.statusReport_evolves ..)

theorem Dev.statusError_evolves (d : Dev) (f : FieldId) : d.Evolves l (d.statusError f) := by
  unfold Dev.statusError
  split
  · exact d.drainOne_evolves _
  · split
    · exact .refl d
    · exact (d.setField_evolves f _).trans (Dev.halt_evolves ..)

end Sys2Proof.Machine
end

section
/-! PROOFS. The line, the timers, the schedule and the control commands evolve the part, and so does every command that does not
reset it. -/

namespace Sys2Proof.Machine

variable {l : Licence}

/-! ## The line (R2, R35) -/

/-- A channel that passes to CHATTER (R41). -/
theorem Channel.chatter_allows {ch : ChanId} {c : Channel} (up : c.state ≠ .stuck) (now : Moment) :
    l.Allows ch c (c.chatter now) :=
  .of_free (by simp [Channel.chatter, Channel.toChatter]) (fun stuck => absurd stuck up) rfl

theorem Channel.activityStart_allows (ch : ChanId) (c : Channel) (now : Moment) :
    l.Allows ch c (c.activityStart now) := by
  let q : Channel := { c with lineActive := true, activeSince := now, unreported := true }
  have noted : l.Allows ch c q := .of_same rfl rfl
  unfold Channel.activityStart
  dsimp only
  split
  case h_1 state _ =>
    have up : c.state ≠ .stuck := by simp [state]
    split
    · exact noted.trans (Channel.chatter_allows (c := q) up now)
    · split
      · exact .of_free (by simp [Channel.receive]) (fun stuck => absurd stuck up) rfl
      · exact noted
  case h_2 state _ =>
    split
    · exact noted.trans (Channel.chatter_allows (c := q) (fun stuck => nomatch state.symm.trans stuck) now)
    · exact noted
  case h_3 =>
    split
    · exact .of_same rfl rfl
    · exact noted
  case h_4 => exact noted

theorem Dev.lineActivity_evolves (d : Dev) (ch : ChanId) : d.Evolves l (d.lineActivity ch) :=
  Dev.evolves_modChan (Channel.activityStart_allows ..)

theorem Dev.stretchOver_evolves (d : Dev) (ch : ChanId) : d.Evolves l (d.stretchOver ch) := by
  obtain ⟨same, -⟩ | ⟨k, listening, -, -, outcome⟩ := d.stretchOver_cases ch
  · rw [same]
    exact .refl d
  · have calmed : d.Evolves l (d.modChan ch fun c => { c with listening := some { k with stretch := none } }) :=
      Dev.modChan_evolves (fun _ => rfl) fun _ => rfl
    obtain ⟨ends, -⟩ | ⟨goes, -⟩ := outcome
    · rw [ends]
      refine calmed.trans (Dev.activityOver_evolves _ fun stuck => ?_)
      rw [Dev.modChan, Dev.chan_setChan_self] at stuck
      exact nomatch listening.symm.trans stuck
    · rw [goes]
      exact calmed

theorem Channel.quietAwaiting_allows {ch : ChanId} {c : Channel} (up : c.state ≠ .stuck) (now : Moment) (a : Attempt) :
    l.Allows ch c (c.quietAwaiting now a) := by
  unfold Channel.quietAwaiting
  split
  · exact Channel.chatter_allows up now
  · exact .of_same rfl rfl

theorem Channel.quietAfterResponse_allows {ch : ChanId} {c : Channel} (up : c.state ≠ .stuck) (now : Moment) (a : Attempt) :
    l.Allows ch c (c.quietAfterResponse now a) := by
  unfold Channel.quietAfterResponse
  split
  · exact .of_same rfl rfl
  · split
    · exact Channel.chatter_allows up now
    · exact .of_same rfl rfl
  · exact .of_same rfl rfl

theorem Dev.lineQuiet_evolves (d : Dev) (ch : ChanId) : d.Evolves l (d.lineQuiet ch) := by
  let e := d.modChan ch fun c => { c with lineActive := false, lastQuiet := d.now }
  have quiet : d.Evolves l e := Dev.modChan_evolves (fun _ => rfl) fun _ => rfl
  refine quiet.trans ?_
  unfold Dev.lineQuiet
  dsimp only
  split
  case h_1 state _ => exact Dev.evolves_modChan (Channel.quietAwaiting_allows (fun stuck => nomatch state.symm.trans stuck) ..)
  case h_2 state _ =>
    exact Dev.evolves_modChan (Channel.quietAfterResponse_allows (fun stuck => nomatch state.symm.trans stuck) ..)
  case h_3 =>
    split
    · exact (Dev.modChan_evolves (f := (Channel.account · d.now)) (by simp) (by simp)).trans (Dev.stretchOver_evolves ..)
    · exact .refl e
  case h_4 => exact .refl e

@[simp] theorem Channel.countGarbled_keeps (c : Channel) :
    c.countGarbled.state = c.state ∧ c.countGarbled.cycle = c.cycle := by
  unfold Channel.countGarbled
  split <;> simp

@[simp] theorem Channel.garbledReport_keeps (c : Channel) (e : Option Moment) :
    (c.garbledReport e).state = c.state ∧ (c.garbledReport e).cycle = c.cycle := by
  unfold Channel.garbledReport
  split
  · split
    · exact ⟨rfl, rfl⟩
    · exact ⟨rfl, rfl⟩
  · simp
  · exact ⟨rfl, rfl⟩

theorem Dev.malformed_evolves (d : Dev) (ch : ChanId) : d.Evolves l (d.malformed ch) := by
  refine (Dev.modChan_evolves ?_ ?_).trans (Dev.stretchOver_evolves ..)
  · exact fun c => c.report.garbledReport_keeps _ |>.1
  · exact fun c => c.report.garbledReport_keeps _ |>.2

theorem Dev.nonFrame_evolves (d : Dev) (ch : ChanId) : d.Evolves l (d.nonFrame ch) := by
  refine (Dev.modChan_evolves ?_ ?_).trans (Dev.stretchOver_evolves ..)
  · exact fun c => c.report.garbledReport_keeps _ |>.1
  · exact fun c => c.report.garbledReport_keeps _ |>.2

theorem Dev.hearAlert_evolves (d : Dev) (ch : ChanId) (w : WindowId) (a : AlertFrame) : d.Evolves l (d.hearAlert ch w a) := by
  have revived : d.Evolves l (d.updateStation ch a.station (StationRec.alert a.code)) :=
    d.updateStation_evolves ch a.station fun _ sound => StationRec.alert_holdSound sound a.code
  have posted (e : Dev) (c : CrId) (x : Entry) : e.Evolves l (e.postAlert c x) :=
    have ⟨same, line, control, _, rings, _⟩ := e.postAlert_keeps c x
    .of_same same line rings control.1
  unfold Dev.hearAlert
  dsimp only
  split
  · exact revived
  · split
    · exact revived
    · split
      · exact revived
      · exact revived.trans (posted ..)

theorem Dev.frame_evolves (d : Dev) (ch : ChanId) (f : RxFrame) : d.Evolves l (d.frame ch f) := by
  unfold Dev.frame
  split
  · exact d.malformed_evolves ch
  · have noted : d.Evolves l (d.modChan ch Channel.report) := Dev.modChan_evolves (fun _ => rfl) fun _ => rfl
    dsimp only
    split
    · split
      · exact noted.trans (Dev.modChan_evolves (fun _ => rfl) fun _ => rfl)
      · exact noted
    · refine .trans ?_ (Dev.stretchOver_evolves ..)
      split
      · exact noted.trans (Dev.hearAlert_evolves ..)
      · exact noted.trans (Dev.modChan_evolves (by simp) (by simp))
    · exact noted

/-! ## The timers (R13 to R16, R38 to R42) -/

theorem Channel.state_of_windowExpiry {c : Channel} {due : Moment} (expiry : c.windowExpiry = some due) :
    c.state = .awaiting := by
  unfold Channel.windowExpiry at expiry
  split at expiry
  · assumption
  · contradiction

theorem Channel.state_of_trailingGap {c : Channel} {x : Verdict × Moment × Moment} (gap : c.trailingGap = some x) :
    c.state = .receiving ∨ c.state = .awaiting := by
  unfold Channel.trailingGap at gap
  split at gap
  · exact .inl ‹_›
  · exact .inr ‹_›
  · contradiction

/-- The end of an attempt, and then of its channel's activity. -/
theorem Dev.attemptOver_evolves (d : Dev) {ch : ChanId} (t : Moment) (v : Verdict) (m : Moment) (lineFault : Bool)
    (free : l.leaves ch) : d.Evolves l (((d.tick t).finishAttempt ch v m lineFault).activityOver ch) :=
  ((d.tick_evolves t).trans (Dev.finishAttempt_evolves ..)).trans (Dev.activityOver_evolves _ fun _ => free)

theorem Dev.endChatter_evolves (d : Dev) (ch : ChanId) (m : Moment) (lineFault : Bool) :
    d.Evolves l (d.endChatter ch m lineFault) := by
  unfold Dev.endChatter
  split
  · exact d.finishAttempt_evolves ..
  · exact Dev.modChan_evolves (by simp) (by simp)

section Timers

variable (d : Dev) {ch : ChanId} (free : (d.chan ch).state ≠ .stuck → l.leaves ch)
include free

theorem Dev.windowExpiry_evolves : d.Evolves l (d.windowExpiry ch) := by
  unfold Dev.windowExpiry
  split
  case h_1 due expiry =>
    exact d.attemptOver_evolves _ _ _ _ (free (by simp [Channel.state_of_windowExpiry expiry]))
  case h_2 => exact .refl d

theorem Dev.trailingGap_evolves : d.Evolves l (d.trailingGap ch) := by
  unfold Dev.trailingGap
  split
  case h_1 gap =>
    refine d.attemptOver_evolves _ _ _ _ (free ?_)
    obtain receiving | awaiting := Channel.state_of_trailingGap gap
    · simp [receiving]
    · simp [awaiting]
  case h_2 => exact .refl d

theorem Dev.quietFound_evolves (sends : (d.chan ch).state = .quietWait → l.sends ch) : d.Evolves l (d.quietFound ch) := by
  unfold Dev.quietFound
  dsimp only
  split
  case isTrue found =>
    obtain ⟨waits, -⟩ := found
    exact (d.tick_evolves _).trans (Dev.checkSelection_evolves _ (sends waits) fun _ => free (by simp [waits]))
  case isFalse => exact .refl d

theorem Dev.chatterQuiet_evolves : d.Evolves l (d.chatterQuiet ch) := by
  unfold Dev.chatterQuiet
  dsimp only
  split
  case isTrue found =>
    obtain ⟨chatter, -⟩ := found
    exact ((d.tick_evolves _).trans (Dev.endChatter_evolves ..)).trans
      (Dev.activityOver_evolves _ fun _ => free (by simp [chatter]))
  case isFalse => exact .refl d

theorem Dev.quietLimit_evolves : d.Evolves l (d.quietLimit ch) := by
  unfold Dev.quietLimit
  dsimp only
  split
  case isTrue expires =>
    obtain ⟨waits, -⟩ := expires
    exact ((d.tick_evolves _).trans (Dev.faultSelected_evolves ..)).trans
      (Dev.enterStuck_evolves _ fun _ => free (by simp [waits]))
  case isFalse => exact .refl d

theorem Dev.chatterLimit_evolves : d.Evolves l (d.chatterLimit ch) := by
  unfold Dev.chatterLimit
  dsimp only
  split
  case isTrue expires =>
    obtain ⟨chatter, -⟩ := expires
    exact ((d.tick_evolves _).trans (Dev.endChatter_evolves ..)).trans
      (Dev.enterStuck_evolves _ fun _ => free (by simp [chatter]))
  case isFalse => exact .refl d

end Timers

theorem Dev.overlongResponse_evolves (d : Dev) (ch : ChanId) : d.Evolves l (d.overlongResponse ch) := by
  unfold Dev.overlongResponse
  split
  case h_1 due overlong =>
    have up : (d.chan ch).state ≠ .stuck := by
      intro stuck
      simp [Channel.overlongResponse, stuck] at overlong
    exact (d.tick_evolves due).trans (Dev.evolves_modChan (Channel.chatter_allows up _))
  case h_2 => exact .refl d

theorem Dev.overlongStretch_evolves (d : Dev) (ch : ChanId) : d.Evolves l (d.overlongStretch ch) := by
  unfold Dev.overlongStretch
  split
  case h_1 due overlong =>
    have up : (d.chan ch).state ≠ .stuck := by
      intro stuck
      simp [Channel.overlongStretch, stuck] at overlong
    refine (d.tick_evolves due).trans (Dev.evolves_modChan (.of_free ?_ (fun stuck => absurd stuck up) ?_))
    · simp [Channel.toChatter]
    · simp [Channel.toChatter]
  case h_2 => exact .refl d

theorem Dev.callSent_evolves (d : Dev) {ch : ChanId} (id : WindowId) (up : (d.chan ch).state ≠ .stuck) :
    d.Evolves l (d.callSent ch id) := by
  have same (c : Channel) : ({ c.account c.sendEnds with attempt := none } : Channel).state = c.state := by simp
  have accounted : d.Evolves l (d.modChan ch fun c => { c.account c.sendEnds with attempt := none }) :=
    Dev.modChan_evolves same (by simp)
  have stays : ((d.modChan ch fun c => { c.account c.sendEnds with attempt := none }).chan ch).state ≠ .stuck := by
    rw [Dev.modChan, Dev.chan_setChan_self, same]
    exact up
  unfold Dev.callSent
  dsimp only
  split
  · exact accounted.trans (Dev.activityOver_evolves _ fun stuck => absurd stuck stays)
  · refine accounted.trans (Dev.evolves_modChan (.of_free ?_ (fun stuck => absurd stuck stays) ?_))
    · unfold Channel.listen
      dsimp only
      split <;> simp
    · unfold Channel.listen
      dsimp only
      split <;> rfl

theorem Dev.frameSent_evolves (d : Dev) (ch : ChanId) : d.Evolves l (d.frameSent ch) := by
  unfold Dev.frameSent
  split
  case h_1 a sending _ =>
    let e := (d.tick (d.chan ch).sendEnds).modChan ch Channel.release
    have released : d.Evolves l e := (d.tick_evolves _).trans (Dev.modChan_evolves (fun _ => rfl) fun _ => rfl)
    have up : (e.chan ch).state ≠ .stuck := by
      intro stuck
      simp [e, Dev.modChan, Channel.release, sending] at stuck
    have awaits (window : Option Nat) : l.Allows ch (e.chan ch) ((e.chan ch).await window) :=
      .of_free (by simp [Channel.await]) (fun stuck => absurd stuck up) rfl
    refine released.trans ?_
    dsimp only
    split
    · exact Dev.evolves_modChan (awaits _)
    · refine Dev.evolves_modChan ((awaits none).trans ?_)
      unfold Channel.afterBroadcast
      split
      · exact Channel.chatter_allows (by simp [Channel.await]) _
      · exact .of_same rfl rfl
    · exact e.callSent_evolves _ up
  case h_2 => exact .refl d

/-! ## The schedule (R51 to R54, R61) -/

theorem Dev.cycleBegins_evolves (d : Dev) {ch : ChanId} (counts : (d.chan ch).state ≠ .off → l.counts ch) :
    d.Evolves l (d.cycleBegins ch) := by
  unfold Dev.cycleBegins
  split
  case isTrue => exact .refl d
  case isFalse up =>
    refine ((d.tick_evolves _).trans (Dev.evolves_modChan ?_)).trans (Dev.cycleSteps_evolves ..)
    exact ⟨.inl, .inl, .inr (counts up)⟩

theorem Dev.swapEvent_evolves (d : Dev) {ch : ChanId} (counts : (d.chan ch).state ≠ .off → l.counts ch) :
    d.Evolves l (d.swapEvent ch) := by
  unfold Dev.swapEvent
  split
  · exact d.cycleBegins_evolves counts
  · exact .refl d

theorem Dev.windowBegins_evolves (d : Dev) (ch : ChanId) : d.Evolves l (d.windowBegins ch) := by
  unfold Dev.windowBegins
  split
  · exact .refl d
  · split
    · exact (d.tick_evolves _).trans (Dev.takeWindow_evolves ..)
    · exact .refl d

theorem Dev.holdExpires_evolves (d : Dev) (ch : ChanId) (st : StationId) : d.Evolves l (d.holdExpires ch st) := by
  unfold Dev.holdExpires
  split
  · exact .refl d
  · exact d.updateStation_evolves ch st fun _ sound => StationRec.expire_holdSound sound _

theorem Dev.deadlineEvent_evolves (d : Dev) (r : RingId) : d.Evolves l (d.deadlineEvent r) := by
  unfold Dev.deadlineEvent
  split
  · split
    · exact .refl d
    · exact (d.checkDeadline_calm r).evolves
  · exact .refl d

/-! ## The control commands (R78 to R85, R34, R44 to R46, R58 to R63, R29 to R32) -/

theorem Dev.takeNop_evolves (d : Dev) : d.Evolves l d.takeNop := by
  unfold Dev.takeNop
  split
  · exact d.completeInHand_evolves ..
  · exact .refl d

theorem Dev.setupRing_evolves (d : Dev) (r : RingId) (base : Addr) (b : Binding) : d.Evolves l (d.setupRing r base b) := by
  unfold Dev.setupRing
  split
  · exact d.completeInHand_evolves ..
  · split
    · refine ((Dev.evolves_setRing ?_).trans (Dev.answerLater_evolves _)).trans (Dev.publish_calm ..).evolves
      exact fun _ => by simp [TransRing.Bounded]
    · exact d.completeInHand_evolves ..

theorem Dev.takeRingSetup_evolves (d : Dev) : d.Evolves l d.takeRingSetup := by
  unfold Dev.takeRingSetup
  split
  · exact d.setupRing_evolves ..
  · exact .refl d

/-- A ring's state is no part of what bounds its queue. -/
theorem Dev.modRing_state_evolves (d : Dev) (r : RingId) (state : RingState) :
    d.Evolves l (d.modRing r fun x => { x with state := state }) :=
  Dev.evolves_setRing fun bounded => bounded

theorem Dev.startRing_evolves (d : Dev) (r : RingId) : d.Evolves l (d.startRing r) := by
  unfold Dev.startRing
  split
  · exact d.completeInHand_evolves ..
  · split
    · exact ((d.modRing_state_evolves r .active).trans
        ((Dev.askReservation_calm ..).trans (Dev.judgeFetch_calm ..)).evolves).trans (Dev.completeInHand_evolves ..)
    · exact d.completeInHand_evolves ..

theorem Dev.takeRingStart_evolves (d : Dev) : d.Evolves l d.takeRingStart := by
  unfold Dev.takeRingStart
  split
  · exact d.startRing_evolves _
  · exact .refl d

theorem Dev.stopRing_evolves (d : Dev) (r : RingId) : d.Evolves l (d.stopRing r) := by
  unfold Dev.stopRing
  split
  · exact d.completeInHand_evolves ..
  · split
    case h_1 | h_2 | h_4 => exact d.completeInHand_evolves ..
    case h_3 =>
      exact (((d.modRing_state_evolves r .stopping).trans (Dev.parkInHand_evolves ..)).trans
        (Dev.judgeStopping_calm ..).evolves).trans (Dev.judgeEngine_evolves _)
    case h_5 =>
      split
      · exact d.completeInHand_evolves ..
      · split
        · exact (d.modRing_state_evolves r .stopped).trans (Dev.completeInHand_evolves ..)
        · exact d.park_evolves _

theorem Dev.takeRingStop_evolves (d : Dev) : d.Evolves l d.takeRingStop := by
  unfold Dev.takeRingStop
  split
  · exact d.stopRing_evolves _
  · exact .refl d

theorem Dev.flushRing_evolves (d : Dev) (r : RingId) : d.Evolves l (d.flushRing r) := by
  unfold Dev.flushRing
  split
  · exact d.completeInHand_evolves ..
  · dsimp only
    split
    · exact d.completeInHand_evolves ..
    · split
      · exact d.completeInHand_evolves ..
      · have parked := d.parkInHand_evolves (l := l) (.flush (d.ring r).post)
        split
        · exact (parked.trans (Dev.judgeFlush_calm ..).evolves).trans (Dev.judgeEngine_evolves _)
        · exact (parked.trans (Dev.askReservation_calm ..).evolves).trans (Dev.judgeEngine_evolves _)

theorem Dev.takeRingFlush_evolves (d : Dev) : d.Evolves l d.takeRingFlush := by
  unfold Dev.takeRingFlush
  split
  · exact d.flushRing_evolves _
  · exact .refl d

theorem Dev.setupCring_evolves (d : Dev) (c : CrId) (base : Addr) (size : Nat) :
    d.Evolves l (d.setupCring c base size) := by
  unfold Dev.setupCring
  dsimp only
  split
  · exact (((Dev.setCring_calm ..).evolves).trans (Dev.answerLater_evolves _)).trans
      ((Dev.publish_calm ..).trans (Dev.giveRoom_calm ..)).evolves
  · exact d.completeInHand_evolves ..

theorem Dev.takeCringSetup_evolves (d : Dev) : d.Evolves l d.takeCringSetup := by
  unfold Dev.takeCringSetup
  split
  · exact d.setupCring_evolves ..
  · exact .refl d

theorem Dev.takeChannelConfig_evolves (d : Dev) : d.Evolves l d.takeChannelConfig := by
  unfold Dev.takeChannelConfig
  split
  · unfold Dev.configChannel
    split
    · refine (Dev.modChan_evolves ?_ ?_).trans (Dev.completeInHand_evolves ..)
      · exact fun _ => rfl
      · exact fun _ => rfl
    · exact d.completeInHand_evolves ..
  · exact .refl d

/-- CHANNEL_ENABLE writes the counter, and takes its channel from OFF alone (R44). -/
theorem Dev.enableChannel_evolves (d : Dev) {ch : ChanId} (start : Option Cycle) (counts : l.counts ch)
    (free : (d.chan ch).state ≠ .stuck → l.leaves ch) : d.Evolves l (d.enableChannel ch start) := by
  unfold Dev.enableChannel
  split
  case isTrue off =>
    have leaves : l.leaves ch := free (by simp [off])
    have numbered : d.Evolves l (d.modChan ch fun c => { c with cycle := start.getD (c.cycle + 1) }) :=
      Dev.evolves_modChan ⟨.inl, .inl, .inr counts⟩
    have begins (e : Dev) : e.Evolves l (((e.cycleSteps ch e.now).enterIdle ch).completeInHand .done) :=
      ((e.cycleSteps_evolves ch _).trans (Dev.enterIdle_evolves _ fun _ => leaves)).trans (Dev.completeInHand_evolves ..)
    dsimp only
    split
    · exact (numbered.trans (Dev.dropHolds_evolves ..)).trans (begins _)
    · exact numbered.trans (begins _)
  case isFalse => exact d.completeInHand_evolves ..

theorem Dev.takeChannelEnable_evolves (d : Dev) (counts : ∀ ch, l.counts ch)
    (free : ∀ ch, (d.chan ch).state ≠ .stuck → l.leaves ch) : d.Evolves l d.takeChannelEnable := by
  unfold Dev.takeChannelEnable
  split
  · exact d.enableChannel_evolves _ (counts _) (free _)
  · exact .refl d

theorem Dev.disableChannel_evolves (d : Dev) (ch : ChanId) : d.Evolves l (d.disableChannel ch) := by
  unfold Dev.disableChannel
  dsimp only
  split
  · exact d.completeInHand_evolves ..
  · split
    · exact d.completeInHand_evolves ..
    · split
      · exact d.completeInHand_evolves ..
      · split
        case isTrue stops =>
          refine (Dev.evolves_modChan (.of_free ?_ (fun stuck => ?_) rfl)).trans (Dev.completeInHand_evolves ..)
          · simp [Channel.toOff]
          · exact absurd stuck (Channel.not_stuck_of_stopsAtOnce stops)
        case isFalse => exact d.park_evolves _

theorem Dev.takeChannelDisable_evolves (d : Dev) : d.Evolves l d.takeChannelDisable := by
  unfold Dev.takeChannelDisable
  split
  · exact d.disableChannel_evolves _
  · exact .refl d

@[simp] theorem Channel.abandon_keeps (now : Moment) (c : Channel) :
    (c.abandon now).state = c.state ∧ (c.abandon now).cycle = c.cycle := by
  unfold Channel.abandon
  dsimp only
  split <;> exact ⟨rfl, rfl⟩

/-- CHANNEL_RESET takes its channel to OFF from every state (R46). -/
theorem Dev.resetChannel_evolves (d : Dev) {ch : ChanId} (leaves : l.leaves ch) : d.Evolves l (d.resetChannel ch) := by
  have abandoned : d.Evolves l ((d.modChan ch (Channel.abandon d.now)).resetStations ch) :=
    (Dev.modChan_evolves (f := Channel.abandon d.now) (by simp) (by simp)).trans (Dev.resetStations_evolves ..)
  have applied (e : Dev) (x : Option StationId) :
      e.Evolves l (match x with | some st => e.applyParkedStation ch st | none => e) := by
    cases x with
    | none => exact .refl e
    | some st => exact e.applyParkedStation_evolves ch st
  have aborted (e : Dev) (x : Option RingId) : e.Evolves l (match x with | some r => e.abortHead r | none => e) := by
    cases x with
    | none => exact .refl e
    | some r => exact (e.abortHead_calm r).evolves
  have stopped (e : Dev) : e.Evolves l (e.modChan ch Channel.toOff) :=
    Dev.evolves_modChan (.of_free (by simp [Channel.toOff]) (fun _ => leaves) rfl)
  exact (((((abandoned.trans (applied _ _)).trans (aborted _ _)).trans (Dev.completeParked_evolves ..)).trans
    (Dev.completeParked_evolves ..)).trans (stopped _)).trans (Dev.completeInHand_evolves ..)

theorem Dev.takeChannelReset_evolves (d : Dev) (leaves : ∀ ch, l.leaves ch) : d.Evolves l d.takeChannelReset := by
  unfold Dev.takeChannelReset
  split
  · exact d.resetChannel_evolves (leaves _)
  · exact .refl d

theorem Dev.takeScheduleWrite_evolves (d : Dev) : d.Evolves l d.takeScheduleWrite := by
  unfold Dev.takeScheduleWrite
  split
  · unfold Dev.writeSchedule
    split
    · exact d.completeInHand_evolves ..
    · refine (Dev.modChan_evolves ?_ ?_).trans (Dev.completeInHand_evolves ..)
      · exact fun _ => rfl
      · exact fun _ => rfl
  · exact .refl d

theorem Dev.takeScheduleCommit_evolves (d : Dev) : d.Evolves l d.takeScheduleCommit := by
  unfold Dev.takeScheduleCommit
  split
  · unfold Dev.commitSchedule
    dsimp only
    split
    · exact d.completeInHand_evolves ..
    · split
      · exact d.completeInHand_evolves ..
      · split
        · exact (Dev.modChan_evolves (f := Channel.swap _) (fun _ => rfl) fun _ => rfl).trans
            (Dev.completeInHand_evolves ..)
        · exact d.park_evolves _
  · exact .refl d

theorem Dev.takeScheduleCancel_evolves (d : Dev) : d.Evolves l d.takeScheduleCancel := by
  unfold Dev.takeScheduleCancel
  split
  · unfold Dev.cancelSchedule
    split
    · exact (Dev.completeParked_evolves ..).trans (Dev.completeInHand_evolves ..)
    · exact d.completeInHand_evolves ..
  · exact .refl d

theorem Dev.takeStationSet_evolves (d : Dev) : d.Evolves l d.takeStationSet := by
  unfold Dev.takeStationSet
  split
  · unfold Dev.setStationRecord
    split
    · exact d.completeInHand_evolves ..
    · split
      · exact d.park_evolves _
      · refine (d.updateStation_evolves _ _ ?_).trans (Dev.completeInHand_evolves ..)
        exact fun _ _ => StationRec.holdSound_of_no_hold rfl
  · exact .refl d

theorem Dev.takeStationRead_evolves (d : Dev) : d.Evolves l d.takeStationRead := by
  unfold Dev.takeStationRead
  split
  · exact d.completeInHand_evolves ..
  · exact .refl d

theorem Dev.takeStationRelease_evolves (d : Dev) : d.Evolves l d.takeStationRelease := by
  unfold Dev.takeStationRelease
  split
  · unfold Dev.releaseStation
    split
    · exact d.completeInHand_evolves ..
    · split
      · exact d.park_evolves _
      · refine (d.updateStation_evolves _ _ ?_).trans (Dev.completeInHand_evolves ..)
        exact fun x _ => StationRec.holdSound_of_no_hold x.hold_release
  · exact .refl d

/-- The alert unit written, and the command answered. -/
theorem Dev.alertWritten_evolves (d : Dev) (u : AlertUnit) : d.Evolves l ((d.setAlert u).completeInHand .done) :=
  (d.setAlert_evolves u).trans (Dev.completeInHand_evolves ..)

theorem Dev.takeFilterWrite_evolves (d : Dev) : d.Evolves l d.takeFilterWrite := by
  unfold Dev.takeFilterWrite
  split
  · exact d.alertWritten_evolves _
  · exact .refl d

theorem Dev.takeFilterBins_evolves (d : Dev) : d.Evolves l d.takeFilterBins := by
  unfold Dev.takeFilterBins
  split
  · exact d.alertWritten_evolves _
  · exact .refl d

theorem Dev.takeFilterMode_evolves (d : Dev) : d.Evolves l d.takeFilterMode := by
  unfold Dev.takeFilterMode
  split
  · exact d.alertWritten_evolves _
  · exact .refl d

theorem Dev.takeAlertMap_evolves (d : Dev) : d.Evolves l d.takeAlertMap := by
  unfold Dev.takeAlertMap
  split
  · exact d.alertWritten_evolves _
  · exact .refl d

theorem Dev.takeCountersRead_evolves (d : Dev) : d.Evolves l d.takeCountersRead := by
  unfold Dev.takeCountersRead
  split
  · refine (Dev.modChan_evolves ?_ ?_).trans (Dev.completeInHand_evolves ..)
    · exact fun _ => rfl
    · exact fun _ => rfl
  · exact .refl d

/-! ## Every command (R35, R43, R52) -/

/-- What a command may do to the channels of a part: send where the channel waits for quiet; take one from STUCK as a
CHANNEL_RESET; change an OFF channel's counter as a CHANNEL_ENABLE. -/
def Instr.licence (i : Instr) (d : Dev) : Licence where
  sends ch := (d.chan ch).state = .quietWait
  leaves ch := (d.chan ch).state = .stuck → ∃ m, i = .channelReset m
  counts ch := (d.chan ch).state = .off → ∃ m, i = .channelEnable m

theorem Dev.Evolves.after_tick {d e : Dev} {t : Moment} (evolves : (d.tick t).Evolves l e) : d.Evolves l e :=
  (d.tick_evolves t).trans evolves

/-- Every command resets the part or evolves it within its licence. -/
theorem exec_evolves {i : Instr} {s t : State} (runs : exec i s = .next t) :
    (i.mayReset = true ∧ ∃ d cause, t.dev = Dev.reset d cause) ∨ s.dev.Evolves (Instr.licence i s.dev) t.dev := by
  have free (ch : ChanId) (up : (s.dev.chan ch).state ≠ .stuck) : (Instr.licence i s.dev).leaves ch :=
    fun stuck => absurd stuck up
  have counts (ch : ChanId) (on : (s.dev.chan ch).state ≠ .off) : (Instr.licence i s.dev).counts ch :=
    fun off => absurd off on
  cases i <;> cases runs
  case powerOnReset t => exact .inl ⟨rfl, _, _, rfl⟩
  case controllerReset t enable =>
    obtain same | reset := (s.dev.tick t).controllerReset_cases
    · refine .inr (Dev.Evolves.after_tick (t := t) ?_)
      change Dev.Evolves _ (s.dev.tick t) (s.dev.tick t).controllerReset
      rw [same]
      exact .refl _
    · exact .inl ⟨rfl, _, _, reset⟩
  case registerWrite t offset bytes value =>
    obtain reset | evolves := (s.dev.tick t).writeRegister_cases offset bytes value
    · exact .inl ⟨rfl, _, _, reset⟩
    · exact .inr evolves.after_tick
  case resetEnd => exact .inr (Dev.resetEnd_evolves _).after_tick
  case enableSet => exact .inr (Dev.writeEnable_evolves ..).after_tick
  case enableClear => exact .inr (Dev.writeEnable_evolves ..).after_tick
  case intStatusClear => exact .inr (Dev.clearCauses_evolves ..).after_tick
  case intMaskWrite => exact .inr (Dev.writeMask_evolves ..).after_tick
  case postTransactionRing => exact .inr (Dev.postRing_evolves ..).after_tick
  case postControlRing => exact .inr (Dev.postControl_evolves ..).after_tick
  case freeCompletionRing => exact .inr (Dev.freeCring_evolves ..).after_tick
  case freeCcr => exact .inr (Dev.freeCcr_evolves ..).after_tick
  case rootReadData => exact .inr (Dev.rootData_evolves ..).after_tick
  case rootReadError => exact .inr (Dev.rootError_evolves _).after_tick
  case recordReadData => exact .inr (Dev.recordData_evolves ..).after_tick
  case recordReadError => exact .inr (Dev.recordError_evolves ..).after_tick
  case controlReadData => exact .inr (Dev.controlData_evolves ..).after_tick
  case controlReadError => exact .inr (Dev.controlError_evolves _).after_tick
  case readCompletionLimitExpiry => exact .inr (Dev.readLimit_evolves ..)
  case entryWriteEnd => exact .inr (Dev.entryEnd_evolves ..).after_tick
  case entryWriteError => exact .inr (Dev.entryError_evolves ..).after_tick
  case ccrWriteError => exact .inr (Dev.ccrError_evolves _).after_tick
  case statusWriteEnd => exact .inr (Dev.statusEnd_evolves ..).after_tick
  case statusWriteError => exact .inr (Dev.statusError_evolves ..).after_tick
  case reservationGrant => exact .inr (Dev.takeGrant_evolves ..).after_tick
  case ccrReservationGrant => exact .inr (Dev.takeCcrGrant_evolves _).after_tick
  case lineActivityStart => exact .inr (Dev.lineActivity_evolves ..).after_tick
  case lineQuiet => exact .inr (Dev.lineQuiet_evolves ..).after_tick
  case frameReport => exact .inr (Dev.frame_evolves ..).after_tick
  case malformedFrameReport => exact .inr (Dev.malformed_evolves ..).after_tick
  case nonFrameActivity => exact .inr (Dev.nonFrame_evolves ..).after_tick
  case responseWindowExpiry => exact .inr (Dev.windowExpiry_evolves _ (free _))
  case trailingGapElapsed => exact .inr (Dev.trailingGap_evolves _ (free _))
  case quietFound => exact .inr (Dev.quietFound_evolves _ (free _) id)
  case chatterQuietFound => exact .inr (Dev.chatterQuiet_evolves _ (free _))
  case quietWaitLimitExpiry => exact .inr (Dev.quietLimit_evolves _ (free _))
  case chatterLimitExpiry => exact .inr (Dev.chatterLimit_evolves _ (free _))
  case overlongResponse => exact .inr (Dev.overlongResponse_evolves ..)
  case overlongAlertStretch => exact .inr (Dev.overlongStretch_evolves ..)
  case frameSent => exact .inr (Dev.frameSent_evolves ..)
  case cycleStart => exact .inr (Dev.cycleBegins_evolves _ (counts _))
  case scheduleSwap => exact .inr (Dev.swapEvent_evolves _ (counts _))
  case holdExpiry => exact .inr (Dev.holdExpires_evolves ..)
  case deadlinePassed => exact .inr (Dev.deadlineEvent_evolves ..)
  case windowStart => exact .inr (Dev.windowBegins_evolves ..)
  case nop => exact .inr (Dev.takeNop_evolves _).after_tick
  case ringSetup => exact .inr (Dev.takeRingSetup_evolves _).after_tick
  case ringStart => exact .inr (Dev.takeRingStart_evolves _).after_tick
  case ringStop => exact .inr (Dev.takeRingStop_evolves _).after_tick
  case ringFlush => exact .inr (Dev.takeRingFlush_evolves _).after_tick
  case cringSetup => exact .inr (Dev.takeCringSetup_evolves _).after_tick
  case channelConfig => exact .inr (Dev.takeChannelConfig_evolves _).after_tick
  case channelEnable t => exact .inr (Dev.takeChannelEnable_evolves (s.dev.tick t) (fun _ _ => ⟨t, rfl⟩) free).after_tick
  case channelDisable => exact .inr (Dev.takeChannelDisable_evolves _).after_tick
  case channelReset t => exact .inr (Dev.takeChannelReset_evolves (s.dev.tick t) fun _ _ => ⟨t, rfl⟩).after_tick
  case scheduleWrite => exact .inr (Dev.takeScheduleWrite_evolves _).after_tick
  case scheduleCommit => exact .inr (Dev.takeScheduleCommit_evolves _).after_tick
  case scheduleCancel => exact .inr (Dev.takeScheduleCancel_evolves _).after_tick
  case stationSet => exact .inr (Dev.takeStationSet_evolves _).after_tick
  case stationRead => exact .inr (Dev.takeStationRead_evolves _).after_tick
  case stationRelease => exact .inr (Dev.takeStationRelease_evolves _).after_tick
  case filterWrite => exact .inr (Dev.takeFilterWrite_evolves _).after_tick
  case filterBins => exact .inr (Dev.takeFilterBins_evolves _).after_tick
  case filterMode => exact .inr (Dev.takeFilterMode_evolves _).after_tick
  case alertMap => exact .inr (Dev.takeAlertMap_evolves _).after_tick
  case countersRead => exact .inr (Dev.takeCountersRead_evolves _).after_tick

end Sys2Proof.Machine
end

section
/-! PROOFS. The invariants and rules of the whole part: O54 to O60, each read from `exec_evolves`. -/

namespace Sys2Proof.Machine

/-! ## A part just reset -/

@[simp] theorem Dev.chan_reset (d : Dev) (cause : ResetCause) (ch : ChanId) : (d.reset cause).chan ch = {} := by
  simp [Dev.chan, Dev.reset]

@[simp] theorem Dev.station_reset (d : Dev) (cause : ResetCause) (ch : ChanId) (st : StationId) :
    (d.reset cause).station ch st = {} := by
  simp [Dev.station, Dev.reset]

@[simp] theorem Dev.ring_reset (d : Dev) (cause : ResetCause) (r : RingId) : (d.reset cause).ring r = {} := by
  simp [Dev.ring, Dev.reset]

theorem Engine.bounded_default : ({} : Engine).Bounded := by simp [Engine.Bounded, Config.parkedLimit]

theorem Engine.eventsDistinct_default : ({} : Engine).EventsDistinct := List.Pairwise.nil

/-- The invariants hold of a part in reset, whatever it was before. -/
theorem Dev.reset_invariants (d : Dev) (cause : ResetCause) :
    (d.reset cause).HoldsSound ∧ (d.reset cause).StagingBounded ∧ (d.reset cause).engine.Bounded ∧
    (d.reset cause).engine.EventsDistinct :=
  ⟨fun ch st => by simp, fun r => by simp [TransRing.Bounded], Engine.bounded_default, Engine.eventsDistinct_default⟩

/-! ## A step is a command -/

/-- A step with an empty queue changes nothing, and any other runs the front command on the same part. -/
theorem step_cases {s t : State} (steps : step s = .next t) :
    t = s ∨ ∃ i rest, s.pending = i :: rest ∧ exec i { s with pending := rest } = .next t := by
  unfold step at steps
  split at steps
  · cases steps
    exact .inl rfl
  · exact .inr ⟨_, _, ‹_›, steps⟩

/-- A step resets the part, or evolves it within the licence of a command. -/
theorem step_evolves {s t : State} (steps : step s = .next t) :
    (∃ d cause, t.dev = Dev.reset d cause) ∨ ∃ i : Instr, s.dev.Evolves (Instr.licence i s.dev) t.dev := by
  obtain rfl | ⟨i, rest, -, runs⟩ := step_cases steps
  · exact .inr ⟨.nop 0, .refl _⟩
  · obtain ⟨-, reset⟩ | evolves := exec_evolves runs
    · exact .inl reset
    · exact .inr ⟨i, evolves⟩

/-! ## The statements -/

/-- Settles O1: by the definition of a step, on each form of the queue. -/
theorem stepRunsFront : Obligations.StepRunsFront := by
  intro c s
  refine ⟨rfl, fun rest front => ?_, fun empty => ?_⟩
  · rw [step, front]
  · rw [step, empty]

/-- Settles O54: the reset state is built of the default values. -/
theorem resetKeepsTheInvariants : Obligations.ResetKeepsTheInvariants := by
  refine ⟨.nil, fun ch st => ?holds, fun r => ?staging, Engine.bounded_default, Engine.eventsDistinct_default, ?ended⟩
  case holds => simp [State.reset, Dev.station]
  case staging => simp [State.reset, Dev.ring, TransRing.Bounded]
  case ended => exact fun _ => rfl

/-- Settles O56. -/
theorem heldStationsAreNotQuarantined : Obligations.HeldStationsAreNotQuarantined := by
  intro s t sound steps
  obtain ⟨d, cause, reset⟩ | ⟨i, evolves⟩ := step_evolves steps
  · obtain ⟨holds, -⟩ := d.reset_invariants cause
    rwa [reset]
  · exact fun ch st => evolves.stations ch st (sound ch st)

/-- Settles O57. -/
theorem stagingStaysBounded : Obligations.StagingStaysBounded := by
  intro s t bounded steps
  obtain ⟨d, cause, reset⟩ | ⟨i, evolves⟩ := step_evolves steps
  · obtain ⟨-, staging, -⟩ := d.reset_invariants cause
    rwa [reset]
  · exact fun r => evolves.rings r (bounded r)

/-- Settles O58. -/
theorem engineKeepsItsBounds : Obligations.EngineKeepsItsBounds := by
  intro s t bounded distinct steps
  obtain ⟨d, cause, reset⟩ | ⟨i, evolves⟩ := step_evolves steps
  · obtain ⟨-, -, engine⟩ := d.reset_invariants cause
    rwa [reset]
  · exact ⟨evolves.engine bounded, evolves.events distinct⟩

/-- Settles O59: a reset leaves every channel OFF, and any other command sends where the channel waits for quiet. -/
theorem sendingFollowsQuietWait : Obligations.SendingFollowsQuietWait := by
  intro s t ch steps sending
  obtain ⟨d, cause, reset⟩ | ⟨i, evolves⟩ := step_evolves steps
  · simp [reset] at sending
  · exact (evolves.channels ch).sends sending

/-- Settles O60: no command but a reset takes HALTED away, and a licence names the one command that takes a channel from STUCK
and the one that changes an OFF channel's counter. -/
theorem haltedStuckAndOffLast : Obligations.HaltedStuckAndOffLast := by
  intro c s t runs noReset
  obtain ⟨mayReset, -⟩ | evolves := exec_evolves runs
  · exact absurd mayReset (by simp [noReset])
  · refine ⟨evolves.port.ended, evolves.port.halted, fun ch stuck noChannelReset => ?_, fun ch off noEnable => ?_⟩
    · obtain stays | leaves := (evolves.channels ch).leaves stuck
      · exact stays
      · obtain ⟨m, reset⟩ := leaves stuck
        exact absurd reset (noChannelReset m)
    · obtain same | counts := (evolves.channels ch).counts
      · exact same
      · obtain ⟨m, enable⟩ := counts off
        exact absurd enable (noEnable m)

/-! ## The memory image (R166, R171) -/

theorem Memory.wf_landWrite (w : Option (Nat × List Byte)) {m : List Host.Cell} (wf : Memory.wf m) :
    Memory.wf (landWrite w m) := by
  unfold landWrite
  split
  · exact Memory.wf_writeBytes _ _ wf
  · exact wf

/-- A command that ends a write leaves what the write has landed; every other leaves the memory image. -/
theorem exec_mem {i : Instr} {s t : State} (runs : exec i s = .next t) :
    t.mem = s.mem ∨
      (∃ w, t.mem = landWrite w s.mem) ∧ ((∃ m ring, i = .entryWriteEnd m ring) ∨ ∃ m f, i = .statusWriteEnd m f) := by
  cases i
  case entryWriteEnd m ring =>
    cases runs
    exact .inr ⟨⟨_, rfl⟩, .inl ⟨m, ring, rfl⟩⟩
  case statusWriteEnd m f =>
    cases runs
    exact .inr ⟨⟨_, rfl⟩, .inr ⟨m, f, rfl⟩⟩
  all_goals
    cases runs
    exact .inl rfl

/-- Settles O55. -/
theorem memoryStaysCanonical : Obligations.MemoryStaysCanonical := by
  intro s t steps
  obtain rfl | ⟨i, rest, front, runs⟩ := step_cases steps
  · exact ⟨id, fun _ _ => rfl⟩
  obtain same | ⟨⟨w, landed⟩, ends⟩ := exec_mem runs
  · exact ⟨fun wf => by rwa [same], fun _ _ => same⟩
  · refine ⟨fun wf => ?_, fun noEntry noStatus => ?_⟩
    · rw [landed]
      exact Memory.wf_landWrite w wf
    · obtain ⟨m, ring, rfl⟩ | ⟨m, f, rfl⟩ := ends
      · exact absurd front (noEntry m ring rest)
      · exact absurd front (noStatus m f rest)

end Sys2Proof.Machine
end

section
/-! PROOFS. The resets (R170) and the register window (R162 to R164, R169): what each write does, and what a read returns. -/

namespace Sys2Proof.Machine

/-! ## Reset values -/

/-- Settles O2: every block of the reset state is its default. -/
theorem resetValues : Obligations.ResetValues := by
  have chan (ch : ChanId) : State.reset.dev.chan ch = {} := by simp [State.reset, Dev.chan]
  have station (ch : ChanId) (st : StationId) : State.reset.dev.station ch st = {} := by simp [State.reset, Dev.station]
  have ring (r : RingId) : State.reset.dev.ring r = {} := by simp [State.reset, Dev.ring]
  have cring (c : CrId) : State.reset.dev.cring c = {} := by simp [State.reset, Dev.cring]
  refine ⟨rfl, rfl, rfl, rfl, rfl, rfl, rfl, rfl, fun ch => ?channels, station, fun r => ?rings, fun c => ?crings, rfl, rfl,
    rfl, rfl, rfl, rfl, rfl, rfl, rfl, rfl, rfl, rfl, rfl⟩
  case channels =>
    rw [chan ch]
    exact ⟨rfl, rfl, rfl, rfl, rfl, rfl, fun k => by simp, rfl, rfl, rfl, rfl, rfl, rfl, rfl, rfl⟩
  case rings =>
    rw [ring r]
    exact ⟨rfl, rfl, rfl, rfl, rfl, rfl, rfl, rfl, rfl⟩
  case crings =>
    rw [cring c]
    exact ⟨rfl, rfl, rfl, rfl, rfl, rfl, rfl, rfl, rfl, rfl⟩

/-! ## Resets -/

theorem Dev.resetting_iff (d : Dev) : d.resetting = true ↔ d.port.part = .resetting := by
  simp [Dev.resetting]

theorem Dev.running_iff (d : Dev) : d.running = true ↔ d.port.part = .running := by
  simp [Dev.running]

theorem becomes_powerOnReset (t : Moment) (s : State) :
    Becomes (.powerOnReset t) s ((s.dev.tick t).reset .power) := rfl

theorem becomes_controllerReset (t : Moment) (enable : Bool) (s : State) :
    Becomes (.controllerReset t enable) s (s.dev.tick t).controllerReset := rfl

theorem becomes_resetEnd (t : Moment) (s : State) : Becomes (.resetEnd t) s (s.dev.tick t).resetEnd := rfl

/-- Settles O3: by what a reset keeps, the time and the operations issued. -/
theorem resetsClearThePart : Obligations.ResetsClearThePart := by
  intro t enable s d cleared
  refine ⟨becomes_powerOnReset t s, fun up => ?resets, fun resetting => ?ignored⟩
  case resets =>
    exact (becomes_controllerReset t enable s).of_eq (if_neg fun resetting => up (d.resetting_iff.1 resetting))
  case ignored =>
    exact (becomes_controllerReset t enable s).of_eq (if_pos (d.resetting_iff.2 resetting))

/-- Settles O4: the two clauses are the branches of the command. -/
theorem resetEndDisables : Obligations.ResetEndDisables := by
  intro t s
  have outcome := becomes_resetEnd t s
  refine ⟨fun resetting ended => outcome.of_eq (if_pos ⟨(Dev.resetting_iff _).2 resetting, ended⟩), fun other => ?_⟩
  refine outcome.of_eq (if_neg fun ⟨resetting, ended⟩ => ?_)
  obtain up | left := other
  · exact up ((Dev.resetting_iff _).1 resetting)
  · exact left ended

/-! ## CONTROL (R163, R164) -/

theorem becomes_enableSet (t : Moment) (s : State) : Becomes (.enableSet t) s ((s.dev.tick t).writeEnable true) := rfl

theorem becomes_enableClear (t : Moment) (s : State) : Becomes (.enableClear t) s ((s.dev.tick t).writeEnable false) := rfl

/-- ROOT_HI is the upper half of the root address. -/
theorem Dev.rootAddress_eq (d : Dev) : d.rootAddress = d.port.rootHi.toNat * 2 ^ 32 + d.port.rootLo.toNat := by
  rw [Dev.rootAddress, BitVec.toNat_append, ← Nat.shiftLeft_add_eq_or_of_lt d.port.rootLo.isLt, Nat.shiftLeft_eq]

theorem Dev.writeEnable_of_resetting {d : Dev} (resetting : d.port.part = .resetting) (enable : Bool) :
    d.writeEnable enable = d := if_pos (.inl (d.resetting_iff.2 resetting))

theorem Dev.writeEnable_of_same {d : Dev} {enable : Bool} (same : d.port.enable = enable) : d.writeEnable enable = d :=
  if_pos (.inr same)

/-- A write that clears ENABLE stores it and no more, set or clear before. -/
theorem Dev.writeEnable_false {d : Dev} (up : d.port.part ≠ .resetting) :
    d.writeEnable false = { d with port := { d.port with enable := false } } := by
  cases set : d.port.enable
  · rw [Dev.writeEnable_of_same set, ← set]
  · have writes : ¬ (d.resetting = true ∨ d.port.enable = false) := by simp [Dev.resetting_iff, up, set]
    exact if_neg writes

/-- A write that sets ENABLE acts by the part state. -/
theorem Dev.writeEnable_true {d : Dev} (up : d.port.part ≠ .resetting) (clear : d.port.enable = false) :
    d.writeEnable true =
      let stored : Dev := { d with port := { d.port with enable := true } }
      match d.port.part with
      | .disabled => stored.start
      | .running => stored.judgeEngine
      | .starting | .halted | .resetting => stored := by
  have writes : ¬ (d.resetting = true ∨ d.port.enable = true) := by simp [Dev.resetting_iff, up, clear]
  exact if_neg writes

/-- Settles O5: each clause is a branch of the write by part state and bit. -/
theorem enableBitActs : Obligations.EnableBitActs := by
  intro t s d stored root
  have sets := becomes_enableSet t s
  have address : stored.rootAddress = root := stored.rootAddress_eq
  refine ⟨fun resetting => ⟨?_, ?_⟩, fun up => ?_, fun set => ?_, fun clear => ⟨?starts, ?fails, ?running, ?elsewhere⟩⟩
  · exact sets.of_eq (Dev.writeEnable_of_resetting (d := d) resetting _)
  · exact (becomes_enableClear t s).of_eq (Dev.writeEnable_of_resetting (d := d) resetting _)
  · exact (becomes_enableClear t s).of_eq (Dev.writeEnable_false (d := d) up)
  · exact sets.of_eq (Dev.writeEnable_of_same (d := d) set)
  case starts =>
    intro disabled aligned
    have acts : d.writeEnable true = stored.start := by
      rw [Dev.writeEnable_true (d := d) (by simp [d, disabled]) clear, show d.port.part = .disabled from disabled]
    refine sets.of_eq (acts.trans ((if_pos ?_).trans ?_))
    · exact (congrArg (· % 64) address).trans aligned
    · rw [← address]
      rfl
  case fails =>
    intro disabled misaligned
    have acts : d.writeEnable true = stored.start := by
      rw [Dev.writeEnable_true (d := d) (by simp [d, disabled]) clear, show d.port.part = .disabled from disabled]
    refine sets.of_eq (acts.trans ((if_neg ?_).trans ?_))
    · exact fun aligned => misaligned ((congrArg (· % 64) address).symm.trans aligned)
    · rw [halt_eq, if_pos (.inl rfl)]
      rfl
  case running =>
    intro running
    rw [Dev.writeEnable_true (d := s.dev.tick t) (by simp [running]) clear,
      show (s.dev.tick t).port.part = .running from running] at sets
    exact sets
  case elsewhere =>
    intro other
    have acts : d.writeEnable true = stored := by
      obtain starting | halted := other
      · rw [Dev.writeEnable_true (d := d) (by simp [d, starting]) clear, show d.port.part = .starting from starting]
      · rw [Dev.writeEnable_true (d := d) (by simp [d, halted]) clear, show d.port.part = .halted from halted]
    exact sets.of_eq acts

/-! ## The interrupt registers (R169) -/

theorem becomes_intStatusClear (t : Moment) (v : Word) (s : State) :
    Becomes (.intStatusClear t v) s ((s.dev.tick t).clearCauses v) := rfl

theorem becomes_intMaskWrite (t : Moment) (v : Word) (s : State) :
    Becomes (.intMaskWrite t v) s ((s.dev.tick t).writeMask v) := rfl

/-- Two words have a bit in common when their conjunction is not 0. -/
theorem and_ne_zero_iff {w : Nat} (x y : BitVec w) : x &&& y ≠ 0 ↔ ∃ i : Fin w, x.getLsbD i = true ∧ y.getLsbD i = true := by
  constructor
  · intro meet
    by_contra apart
    refine meet (BitVec.eq_of_getLsbD_eq fun i inside => ?_)
    have bit : ¬ (x.getLsbD i = true ∧ y.getLsbD i = true) := fun both => apart ⟨⟨i, inside⟩, both⟩
    rw [BitVec.getLsbD_and, BitVec.ofNat_eq_ofNat, BitVec.getLsbD_zero]
    exact Bool.eq_false_iff.2 fun both => bit (Bool.and_eq_true_iff.1 both)
  · rintro ⟨i, left, right⟩ zero
    have bit : (x &&& y).getLsbD i = false := by rw [zero, BitVec.ofNat_eq_ofNat, BitVec.getLsbD_zero]
    exact nomatch bit.symm.trans ((BitVec.getLsbD_and ..).trans (Bool.and_eq_true_iff.2 ⟨left, right⟩))

/-- Settles O6: the two writes bit by bit, and the request. -/
theorem interruptRegistersAct : Obligations.InterruptRegistersAct := by
  intro t v s
  have clears := becomes_intStatusClear t v s
  have masks := becomes_intMaskWrite t v s
  refine ⟨fun up => ⟨⟨s.dev.port.intStatus &&& ~~~(v.setWidth 6), fun i => ?_, ?_⟩, ⟨v.setWidth 6, fun i => ?_, ?_⟩⟩,
    fun resetting => ⟨?_, ?_⟩, ?_⟩
  · simp
  · exact clears.of_eq (if_neg fun resetting => up ((Dev.resetting_iff _).1 resetting))
  · simp
  · exact masks.of_eq (if_neg fun resetting => up ((Dev.resetting_iff _).1 resetting))
  · exact clears.of_eq (if_pos ((Dev.resetting_iff _).2 resetting))
  · exact masks.of_eq (if_pos ((Dev.resetting_iff _).2 resetting))
  · rw [Dev.interruptRequest, bne_iff_ne]
    exact and_ne_zero_iff _ _

/-! ## POST_CONTROL_RING and the engine's judgement (R147, R148) -/

/-- What the engine's judgement waits for: a part that is RUNNING, ENABLE, and a record posted (R149). -/
def Dev.posted (d : Dev) : Prop := d.port.part = .running ∧ d.port.enable = true ∧ d.engine.post ≠ d.engine.read

theorem Dev.judgeEngine_of_not_posted {d : Dev} (rests : ¬ d.posted) : d.judgeEngine = d :=
  if_neg fun ⟨running, acts⟩ => rests ⟨d.running_iff.1 running, acts⟩

theorem Dev.judgeEngine_of_posted {d : Dev} (posted : d.posted) :
    d.judgeEngine = match d.engine.phase with
      | .idle => if d.engine.parked.length < 8 then (d.setEngine { d.engine with phase := .reserving }).requestCcr else d
      | .reserved => d.setEngine { d.engine with
          phase := .reading, address := slotAddress d.engine.base 64 d.engine.read, issued := d.now }
      | _ => d := by
  obtain ⟨running, acts⟩ := posted
  exact if_pos ⟨d.running_iff.2 running, acts⟩

theorem Dev.judgeEngine_of_idle {d : Dev} (posted : d.posted) (idle : d.engine.phase = .idle)
    (room : d.engine.parked.length < 8) :
    d.judgeEngine = (d.setEngine { d.engine with phase := .reserving }).requestCcr := by
  rw [Dev.judgeEngine_of_posted posted, idle]
  exact if_pos room

theorem Dev.judgeEngine_of_reserved {d : Dev} (posted : d.posted) (reserved : d.engine.phase = .reserved) :
    d.judgeEngine = d.setEngine { d.engine with
      phase := .reading, address := slotAddress d.engine.base 64 d.engine.read, issued := d.now } := by
  rw [Dev.judgeEngine_of_posted posted, reserved]

/-- A phase that waits for something else, or a full list. -/
theorem Dev.judgeEngine_of_busy {d : Dev} (busy : (d.engine.phase ≠ .idle ∧ d.engine.phase ≠ .reserved) ∨
    (d.engine.phase = .idle ∧ 8 ≤ d.engine.parked.length)) : d.judgeEngine = d := by
  by_cases posted : d.posted
  · rw [Dev.judgeEngine_of_posted posted]
    obtain ⟨notIdle, notReserved⟩ | ⟨idle, full⟩ := busy
    · split <;> simp_all
    · rw [idle]
      exact if_neg (not_lt.2 full)
  · exact Dev.judgeEngine_of_not_posted posted

theorem becomes_postControlRing (t : Moment) (i : BitVec 12) (s : State) :
    Becomes (.postControlRing t i) s ((s.dev.tick t).postControl i.toNat) := rfl

/-- Settles O9: the index is ignored or stored, and the judgement goes by the phase. -/
theorem postMovesTheControlIndex : Obligations.PostMovesTheControlIndex := by
  intro t i s d e
  have outcome := becomes_postControlRing t i s
  refine ⟨fun outside => outcome.of_eq (if_neg (not_lt.2 outside)), fun inside => ?_⟩
  let stored : Dev := { d with engine := e }
  have stores : Becomes (.postControlRing t i) s stored.judgeEngine := outcome.of_eq (if_pos inside)
  refine ⟨fun rests => stores.of_eq ?_, fun running enable posted => ?_⟩
  · obtain stopped | clear | caught | busy := rests
    · exact Dev.judgeEngine_of_not_posted fun ⟨running, _⟩ => stopped running
    · exact Dev.judgeEngine_of_not_posted fun ⟨_, enable, _⟩ => nomatch clear.symm.trans enable
    · exact Dev.judgeEngine_of_not_posted fun ⟨_, _, posted⟩ => posted caught
    · exact Dev.judgeEngine_of_busy (by tauto)
  · have posted : stored.posted := ⟨running, enable, posted⟩
    exact ⟨fun reserved => stores.of_eq (Dev.judgeEngine_of_reserved posted reserved),
      fun idle room => stores.of_eq (Dev.judgeEngine_of_idle posted idle room)⟩

/-! ## CCR_RESERVATION_GRANT (R148) -/

theorem becomes_ccrReservationGrant (t : Moment) (s : State) :
    Becomes (.ccrReservationGrant t) s (s.dev.tick t).takeCcrGrant := rfl

/-- Settles O22: a grant makes the engine RESERVED, which then judges R148. -/
theorem ccrGrantReachesTheEngine : Obligations.CcrGrantReachesTheEngine := by
  intro t s d e posted
  have outcome := becomes_ccrReservationGrant t s
  refine ⟨fun granted reserving => ?_, fun other => outcome.of_eq (if_neg fun ⟨granted, reserving⟩ => ?_)⟩
  · let held : Dev := { d with ccr := { d.ccr with granted := false }, engine := { e with phase := .reserved } }
    have takes : Becomes (.ccrReservationGrant t) s held.judgeEngine := outcome.of_eq (if_pos ⟨granted, reserving⟩)
    exact ⟨fun posted => takes.of_eq (Dev.judgeEngine_of_reserved (d := held) posted rfl),
      fun rests => takes.of_eq (Dev.judgeEngine_of_not_posted (d := held) rests)⟩
  · obtain absent | busy := other
    · exact nomatch absent.symm.trans granted
    · exact busy reserving

/-! ## REGISTER_WRITE (R162, R168) -/

theorem becomes_registerWrite (t : Moment) (offset : BitVec 6) (bytes : Nat) (v : Word) (s : State) :
    Becomes (.registerWrite t offset bytes v) s ((s.dev.tick t).writeRegister offset bytes v) := rfl

/-- A write of a whole register at its offset acts by the register's number. -/
theorem Dev.writeRegister_of_whole {d : Dev} (up : d.port.part ≠ .resetting) {offset : BitVec 6}
    (aligned : offset.toNat % 4 = 0) (v : Word) :
    d.writeRegister offset 4 v = match offset.toNat / 4 with
      | 1 => if v.getLsbD 1 then d.controllerReset else d.writeEnable (v.getLsbD 0)
      | 3 => d.clearCauses v
      | 4 => d.writeMask v
      | 5 => d.setPort { d.port with rootLo := v }
      | 6 => d.setPort { d.port with rootHi := v }
      | 7 => d.writePost v
      | 8 => d.writeFree v
      | _ => d :=
  if_neg (by simp [Dev.resetting_iff, up, aligned])

theorem toFin_of_eq {n k : Nat} {i : Fin n} (h : k = i.val) : toFin n k = some i := by
  subst h
  exact dif_pos i.isLt

theorem toFin_of_le {n k : Nat} (h : n ≤ k) : toFin n k = none := dif_neg (not_lt.2 h)

theorem Dev.writePost_of_ring (d : Dev) {v : Word} {r : RingId} (names : (v.extractLsb' 0 4).toNat = r.val) :
    d.writePost v = d.postRing r (v.extractLsb' 16 12).toNat := by
  rw [Dev.writePost, toFin_of_eq names]

theorem Dev.writePost_of_control (d : Dev) {v : Word} (names : v.extractLsb' 0 4 = 15) :
    d.writePost v = d.postControl (v.extractLsb' 16 12).toNat := by
  rw [Dev.writePost, names, toFin_of_le (by decide)]
  exact if_pos rfl

theorem Dev.writePost_of_none (d : Dev) {v : Word} (large : 8 ≤ (v.extractLsb' 0 4).toNat) (other : v.extractLsb' 0 4 ≠ 15) :
    d.writePost v = d := by
  rw [Dev.writePost, toFin_of_le large]
  exact if_neg other

theorem Dev.writeFree_of_cring (d : Dev) {v : Word} {c : CrId} (names : (v.extractLsb' 0 4).toNat = c.val) :
    d.writeFree v = d.freeCring c (v.extractLsb' 16 12).toNat := by
  rw [Dev.writeFree, toFin_of_eq names]

theorem Dev.writeFree_of_ccr (d : Dev) {v : Word} (names : v.extractLsb' 0 4 = 15) :
    d.writeFree v = d.freeCcr (v.extractLsb' 16 12).toNat := by
  rw [Dev.writeFree, names, toFin_of_le (by decide)]
  exact if_pos rfl

theorem Dev.writeFree_of_none (d : Dev) {v : Word} (large : 4 ≤ (v.extractLsb' 0 4).toNat) (other : v.extractLsb' 0 4 ≠ 15) :
    d.writeFree v = d := by
  rw [Dev.writeFree, toFin_of_le large]
  exact if_neg other

theorem leBytes_length (n k : Nat) : (leBytes n k).length = k := by simp [leBytes]

theorem leBytes_getElem? (n : Nat) {k i : Nat} (h : i < k) : (leBytes n k)[i]? = some (BitVec.ofNat 8 (n >>> (8 * i))) := by
  simp [leBytes, h]

/-- The bytes of a register that a read returns (R162). -/
theorem Dev.readRegister_eq (d : Dev) {offset : BitVec 6} {bytes : Nat} (fits : offset.toNat % 4 + bytes ≤ 4) :
    (d.readRegister offset bytes).length = bytes ∧
    ∀ i, i < bytes → (d.readRegister offset bytes)[i]? =
      some (BitVec.ofNat 8 ((d.register (offset.toNat / 4)).toNat >>> (8 * (offset.toNat % 4 + i)))) := by
  refine ⟨?_, fun i inside => ?_⟩
  · simp only [Dev.readRegister, List.length_take, List.length_drop, leBytes_length]
    omega
  · rw [Dev.readRegister, List.getElem?_take_of_lt inside, List.getElem?_drop, leBytes_getElem? _ (by omega)]

/-- STATUS holds the three codes apart (R162). -/
theorem Dev.statusRegister_toNat (d : Dev) : d.statusRegister.toNat =
    d.port.part.code + 16 * d.port.haltCause.code + 256 * d.port.resetCause.code := by
  rw [Dev.statusRegister, BitVec.toNat_ofNat, Nat.mod_eq_of_lt]
  have part : d.port.part.code ≤ 4 := by cases d.port.part <;> decide
  have halt : d.port.haltCause.code ≤ 5 := by cases d.port.haltCause <;> decide
  have reset : d.port.resetCause.code ≤ 2 := by cases d.port.resetCause <;> decide
  omega

/-- Settles O7: the register's number is the offset's, and each register acts as its command; a read takes the register's
bytes. -/
theorem registerWriteDispatches : Obligations.RegisterWriteDispatches := by
  intro t offset bytes v s w
  have outcome := becomes_registerWrite t offset bytes v s
  refine ⟨fun ignored => outcome.of_eq (if_pos ?_), fun up whole => ?writes, fun fits => ?reads⟩
  · simpa [Dev.resetting_iff] using ignored
  case writes =>
    subst whole
    have acts (aligned : offset.toNat % 4 = 0) := outcome.of_eq (Dev.writeRegister_of_whole (d := s.dev.tick t) up aligned v)
    refine ⟨?control, ?clears, ?masks, ?low, ?high, ?post, ?postControl, ?postNone, ?free, ?freeCcr, ?freeNone, ?others⟩
    case control =>
      rintro rfl
      have writes : Becomes w s (if v.getLsbD 1 then (s.dev.tick t).controllerReset
        else (s.dev.tick t).writeEnable (v.getLsbD 0)) := acts (by decide)
      by_cases reset : v.getLsbD 1
      · rw [if_pos reset] at writes ⊢
        exact writes
      · rw [if_neg reset] at writes ⊢
        cases set : v.getLsbD 0 <;> rw [set] at writes <;> exact writes
    case clears =>
      rintro rfl
      exact acts (by decide)
    case masks =>
      rintro rfl
      exact acts (by decide)
    case low =>
      rintro rfl
      exact acts (by decide)
    case high =>
      rintro rfl
      exact acts (by decide)
    case post =>
      rintro rfl r names
      exact (acts (by decide)).of_eq (Dev.writePost_of_ring _ names)
    case postControl =>
      rintro rfl names
      exact (acts (by decide)).of_eq (Dev.writePost_of_control _ names)
    case postNone =>
      rintro rfl large other
      exact (acts (by decide)).of_eq (Dev.writePost_of_none _ large other)
    case free =>
      rintro rfl c names
      exact (acts (by decide)).of_eq (Dev.writeFree_of_cring _ names)
    case freeCcr =>
      rintro rfl names
      exact (acts (by decide)).of_eq (Dev.writeFree_of_ccr _ names)
    case freeNone =>
      rintro rfl large other
      exact (acts (by decide)).of_eq (Dev.writeFree_of_none _ large other)
    case others =>
      intro other
      refine outcome.of_eq ?_
      by_cases aligned : offset.toNat % 4 = 0
      · refine (Dev.writeRegister_of_whole (d := s.dev.tick t) up aligned v).trans ?_
        obtain rfl | rfl | unused := other
        · rfl
        · rfl
        · have past : 36 ≤ offset.toNat := unused
          obtain ⟨k, number⟩ : ∃ k, offset.toNat / 4 = k + 9 := Nat.exists_eq_add_of_le' (by omega)
          rw [number]
          rfl
      · exact if_pos (.inr (.inr aligned))
  case reads =>
    refine ((s.dev.tick t).readRegister_eq fits).imp_right fun holds i inside => (holds i inside).trans ?_
    refine congrArg (fun n => some (BitVec.ofNat 8 (n >>> (8 * (offset.toNat % 4 + i))))) ?_
    match offset.toNat / 4 with
    | 0 => rfl
    | 1 =>
      change (BitVec.ofNat 32 s.dev.port.enable.toNat).toNat = if s.dev.port.enable then 1 else 0
      cases s.dev.port.enable <;> rfl
    | 2 => exact (s.dev.tick t).statusRegister_toNat.trans rfl
    | 3 => exact (BitVec.toNat_setWidth_of_le (by decide)).trans rfl
    | 4 => exact (BitVec.toNat_setWidth_of_le (by decide)).trans rfl
    | 5 => rfl
    | 6 => rfl
    | _ + 7 => rfl

end Sys2Proof.Machine
end

section
/-! PROOFS. Room (R133, R136, R142) and the pending event set (R143, R144): what giving out the room of a completion ring and of
the CCR does, and what entering an event does, each as one equation; FREE and RECORD_READ_ERROR by them. -/

namespace Sys2Proof.Machine

/-! ## Room -/

theorem Dev.not_halted_iff (d : Dev) : d.halted = false ↔ d.port.part ≠ .halted := by
  simp [Dev.halted]

theorem EntrySource.claims_iff (source : EntrySource) : source.claims = decide (source ∈ [.event, .alert, .alertsLost]) := by
  cases source <;> simp [EntrySource.claims]

/-- The room by the occupied count, the reservations and the claims (R133). -/
theorem Slots.room_eq (x : Slots) : x.room = x.roomLeft := by
  rw [Slots.room, Slots.roomLeft, Slots.claims, List.countP_eq_length_filter, Slots.occupied, distance]
  simp only [EntrySource.claims_iff]

theorem Cring.room_of_active {x : Cring} (active : x.state = .active) : x.room = x.slots.roomLeft := by
  rw [Cring.room, active]
  exact x.slots.room_eq

/-- An entry with a claim takes one slot of the room (R130). -/
theorem Slots.roomLeft_post {x : Slots} {p : Posting} (claims : p.source.claims = true) (halted : Bool) :
    (x.post p halted).roomLeft = x.roomLeft - 1 := by
  rw [EntrySource.claims_iff, decide_eq_true_eq] at claims
  rw [Slots.post_eq]
  simp only [Slots.roomLeft, List.filter_append, List.length_append, List.filter_singleton, claims, decide_true, cond_true,
    List.length_singleton, Nat.sub_sub, Nat.add_assoc]

/-! ## The room of CR0 to CR3 (R136) -/

theorem Dev.setCring_setCring (d : Dev) (c : CrId) (x y : Cring) : (d.setCring c x).setCring c y = d.setCring c y := by
  simp [Dev.setCring]

theorem Dev.setCring_cring (d : Dev) (c : CrId) : d.setCring c (d.cring c) = d := by
  simp [Dev.setCring, Dev.cring]

theorem Dev.reportLost_of_none {d : Dev} {c : CrId} (rests : (d.cring c).lost = 0 ∨ (d.cring c).room = 0) :
    d.reportLost c = d :=
  if_neg fun ⟨_, lost, room⟩ => by omega

theorem Dev.reportLost_of_lost {d : Dev} {c : CrId} (active : (d.cring c).state = .active) (lost : 0 < (d.cring c).lost)
    (room : 1 ≤ (d.cring c).room) :
    d.reportLost c = d.setCring c { d.cring c with
      lost := 0
      slots := (d.cring c).slots.post { entry := alertsLostEntry c (d.cring c).lost, source := .alertsLost } d.halted } := by
  refine (if_pos ⟨active, lost, room⟩).trans ?_
  rw [Dev.postCring, Dev.modCring, Dev.cring_setCring_self, Dev.setCring_setCring]
  rfl

/-- The room of an ACTIVE ring goes to its lost alerts and then to its oldest waiters (R136). -/
theorem Dev.giveRoom_eq {d : Dev} {c : CrId} {y : Cring} (reported : d.reportLost c = d.setCring c y) (active : y.state = .active) :
    d.giveRoom c =
      { d.setCring c { y with
          waiters := y.waiters.drop y.slots.roomLeft
          slots := { y.slots with reservations := y.slots.reservations + (y.waiters.take y.slots.roomLeft).length } } with
        grants := d.grants ++ (y.waiters.take y.slots.roomLeft).map fun r => { ring := r } } := by
  rw [Dev.giveRoom, reported, Dev.cring_setCring_self, Cring.room_of_active active, Dev.grantWaiters, Dev.cring_setCring_self,
    Dev.setCring_setCring]
  rfl

/-! ## Events leave the set (R144) -/

theorem Dev.eventEntry_eq (d : Dev) (e : Event) : ({ entry := d.eventEntry e, source := .event } : Posting) = d.eventPosting e := by
  refine congrArg₂ (fun (n : Nat) (cycle : Cycle) => ({
    entry := { kind := .event, source := e.object, detail := BitVec.ofNat 32 n, cycle := cycle }
    source := .event } : Posting)) ?detail ?cycle
  case detail => exact congrArg (· + e.repeats) (Nat.mul_comm ..)
  case cycle => cases e.kind <;> rfl

/-- The part with the events `out` gone to the CCR's posting queue and the events `rest` pending. -/
def Dev.withPosted (d : Dev) (out rest : List Event) : Dev :=
  { d with
    engine := { d.engine with events := rest }
    ccr := { d.ccr with slots := { d.ccr.slots with
      posting := d.ccr.slots.posting ++ out.map d.eventPosting
      stage := if out ≠ [] ∧ d.ccr.slots.stage = .idle then .writing else d.ccr.slots.stage } } }

theorem Dev.withEvents_eq (d : Dev) (events : List Event) :
    d.withEvents events = d.withPosted (d.eventsOut events) (events.drop (d.eventsOut events).length) := rfl

theorem Dev.withPosted_nil (d : Dev) : d.withPosted [] d.engine.events = d := by
  simp [Dev.withPosted]

/-- With no event to be held, nothing leaves. -/
theorem Dev.withEvents_nil {d : Dev} (none : d.engine.events = []) : d.withEvents [] = d := by
  have quiet : d.eventsOut [] = [] := by simp [Dev.eventsOut]
  rw [Dev.withEvents_eq, quiet]
  exact (congrArg (d.withPosted []) none.symm).trans d.withPosted_nil

theorem Dev.withPosted_withPosted (d : Dev) (out out' rest rest' : List Event) :
    (d.withPosted out rest).withPosted out' rest' = d.withPosted (out ++ out') rest' := by
  have entries : (d.withPosted out rest).eventPosting = d.eventPosting := rfl
  rw [Dev.withPosted, entries]
  simp only [Dev.withPosted, List.append_assoc, List.map_append]
  cases out <;> by_cases idle : d.ccr.slots.stage = .idle <;> simp [idle]

theorem Dev.postEvents_eq {d : Dev} (up : d.halted = false) (n : Nat) :
    d.postEvents n = d.withPosted (d.engine.events.take n) (d.engine.events.drop n) := by
  induction n generalizing d with
  | zero => exact d.withPosted_nil.symm
  | succ n ih =>
    unfold Dev.postEvents
    split
    case h_1 none =>
      rw [none]
      exact (none ▸ d.withPosted_nil).symm
    case h_2 e rest events =>
      have left : (d.setEngine { d.engine with events := rest }).postCcr { entry := d.eventEntry e, source := .event } =
          d.withPosted [e] rest := by
        have up' : (d.setEngine { d.engine with events := rest }).halted = false := up
        rw [Dev.postCcr, Slots.post_eq, Dev.eventEntry_eq, up']
        simp [Dev.withPosted, Dev.setEngine, Dev.setCcr]
      rw [left, ih (d := d.withPosted [e] rest) up, events]
      exact d.withPosted_withPosted [e] _ rest _

theorem drop_length_take {α : Type} (xs : List α) (n : Nat) : xs.drop (xs.take n).length = xs.drop n := by
  rw [List.length_take]
  obtain short | long := Nat.le_total n xs.length
  · rw [Nat.min_eq_left short]
  · rw [Nat.min_eq_right long, List.drop_length, List.drop_eq_nil_of_le long]

/-- Events leave while the part is RUNNING and the CCR has room (R144). -/
theorem Dev.drainEvents_eq (d : Dev) : d.drainEvents = d.withEvents d.engine.events := by
  rw [Dev.withEvents_eq, Dev.eventsOut]
  by_cases acts : d.port.part = .running ∧ d.ccr.active = true
  · have up : d.halted = false := by simp [Dev.halted, acts.1]
    have drains : d.drainEvents = d.postEvents d.ccr.slots.room := if_pos ⟨d.running_iff.2 acts.1, acts.2⟩
    rw [if_pos acts, drains, Dev.postEvents_eq up, Slots.room_eq, drop_length_take]
  · have rests : d.drainEvents = d := if_neg fun ⟨running, active⟩ => acts ⟨d.running_iff.1 running, active⟩
    rw [if_neg acts, rests]
    exact d.withPosted_nil.symm

/-! ## Entering an event (R143) -/

theorem Event.same_iff (e : Event) (kind : EventKind) (object : Nat) :
    e.same kind object = true ↔ e.kind = kind ∧ e.object = object := by
  simp [Event.same]

theorem map_again_eq (kind : EventKind) (object : Nat) (events : List Event) :
    events.map (Event.again kind object) = recurred kind object events := by
  refine List.map_congr_left fun e _ => ?_
  simp only [Event.again, Event.same_iff]
  rfl

/-- A pending event counts a repeat in its place. -/
theorem Dev.enterEvent_of_pending {d : Dev} {kind : EventKind} {object : Nat}
    (pending : ∃ e ∈ d.engine.events, e.kind = kind ∧ e.object = object) :
    d.enterEvent kind object = { d with engine := { d.engine with events := recurred kind object d.engine.events } } := by
  have stands : d.engine.events.any (fun e => e.same kind object) = true := by
    simpa only [List.any_eq_true, Event.same_iff] using pending
  rw [Dev.enterEvent, if_pos stands, map_again_eq]
  rfl

/-- A new event joins the tail, and leaves at once as far as there is room. -/
theorem Dev.enterEvent_of_new {d : Dev} {kind : EventKind} {object : Nat}
    (new : ¬ ∃ e ∈ d.engine.events, e.kind = kind ∧ e.object = object) :
    d.enterEvent kind object = d.withEvents (d.engine.events ++ [{ kind := kind, object := object, repeats := 0 }]) := by
  have absent : ¬ d.engine.events.any (fun e => e.same kind object) = true := by
    simpa only [List.any_eq_true, Event.same_iff] using new
  rw [Dev.enterEvent, if_neg absent, Dev.drainEvents_eq]
  rfl

/-! ## FREE (R136, R142) -/

theorem Slots.frees_iff (x : Slots) (i : Nat) : x.frees i = true ↔
    i < x.size ∧ i ≠ x.consumer ∧ (i + x.size - x.consumer) % x.size ≤ (x.producer + x.size - x.consumer) % x.size := by
  rw [Slots.frees, Bool.and_eq_true, Bool.and_eq_true, decide_eq_true_iff, decide_eq_true_iff, bne_iff_ne]
  exact ⟨fun ⟨⟨size, span⟩, moves⟩ => ⟨size, moves, span⟩, fun ⟨size, moves, span⟩ => ⟨⟨size, span⟩, moves⟩⟩

theorem Dev.grantEngine_eq (d : Dev) : d.grantEngine =
    if d.ccr.requested = true ∧ d.ccr.active = true ∧ d.engine.events = [] ∧ 1 ≤ d.ccr.slots.roomLeft then
      { d with ccr := { d.ccr with
          requested := false, granted := true
          slots := { d.ccr.slots with reservations := d.ccr.slots.reservations + 1 } } }
    else d := by
  rw [Dev.grantEngine, Slots.room_eq]
  rfl

theorem becomes_freeCompletionRing (t : Moment) (c : CrId) (i : BitVec 12) (s : State) :
    Becomes (.freeCompletionRing t c i) s ((s.dev.tick t).freeCring c i.toNat) := rfl

theorem becomes_freeCcr (t : Moment) (i : BitVec 12) (s : State) :
    Becomes (.freeCcr t i) s ((s.dev.tick t).freeCcr i.toNat) := rfl

/-- Settles O10: a FREE inside the span moves the index and gives the room out, by the equations above. -/
theorem freeMovesTheConsumerIndex : Obligations.FreeMovesTheConsumerIndex := by
  intro t i s d inside
  refine ⟨?cring, ?ccr⟩
  case cring =>
    intro c x
    let moved : Cring := { x with slots := { x.slots with consumer := i.toNat } }
    have gives (active : x.state = .active) (free : inside x.slots) :
        Becomes (.freeCompletionRing t c i) s ((d.setCring c moved).giveRoom c) :=
      (becomes_freeCompletionRing t c i s).of_eq (if_pos ⟨active, (x.slots.frees_iff _).2 free⟩)
    have own : (d.setCring c moved).cring c = moved := Dev.cring_setCring_self ..
    have room (active : x.state = .active) : ((d.setCring c moved).cring c).room = moved.slots.roomLeft := by
      rw [own, Cring.room_of_active (x := moved) active]
    have rests (active : x.state = .active) (free : inside x.slots) (none : x.lost = 0 ∨ moved.slots.roomLeft = 0) :
        Becomes (.freeCompletionRing t c i) s
          { d.setCring c { x with
              waiters := x.waiters.drop moved.slots.roomLeft
              slots := { moved.slots with
                reservations := x.slots.reservations + (x.waiters.take moved.slots.roomLeft).length } } with
            grants := s.dev.grants ++ (x.waiters.take moved.slots.roomLeft).map fun r => { ring := r } } := by
      have kept : (d.setCring c moved).reportLost c = (d.setCring c moved).setCring c moved := by
        rw [Dev.reportLost_of_none (by rwa [room active, own]), Dev.setCring_setCring]
      refine (gives active free).of_eq ((Dev.giveRoom_eq kept active).trans ?_)
      rw [Dev.setCring_setCring]
      rfl
    refine ⟨gives, fun active free none noWaiters => ?_, fun active free => ⟨rests active free, fun lost left => ?_⟩, fun other => ?_⟩
    · refine (rests active free (.inl none)).of_eq ?_
      simp [moved, noWaiters, Dev.setCring, d]
    · have lostOut := Dev.reportLost_of_lost (d := d.setCring c moved) (c := c) (by rwa [own]) (by rwa [own]) (by rwa [room active])
      refine (gives active free).of_eq ((Dev.giveRoom_eq lostOut (by rwa [own])).trans ?_)
      rw [own, Dev.setCring_setCring, Slots.roomLeft_post rfl, Slots.post_eq]
      simp only [Dev.not_halted_iff]
      rfl
    · refine (becomes_freeCompletionRing t c i s).of_eq (if_neg fun ⟨active, free⟩ => ?_)
      obtain rests | outside := other
      · exact rests active
      · exact outside ((x.slots.frees_iff _).1 free)
  case ccr =>
    intro x
    let moved : Dev := { d with ccr := { x with slots := { x.slots with consumer := i.toNat } } }
    have gives (active : x.active = true) (free : inside x.slots) : Becomes (.freeCcr t i) s moved.giveCcrRoom :=
      (becomes_freeCcr t i s).of_eq (if_pos ⟨active, (x.slots.frees_iff _).2 free⟩)
    refine ⟨fun active free => ?given, gives, fun active free none quiet => ?_, fun other => ?_⟩
    case given =>
      intro u grants
      have drained : moved.giveCcrRoom = u.grantEngine := congrArg Dev.grantEngine moved.drainEvents_eq
      have granted := drained.trans u.grantEngine_eq
      refine ⟨fun ⟨requested, left, room⟩ => ?_, fun none => ?_⟩
      · exact (gives active free).of_eq (granted.trans (if_pos ⟨requested, active, left, room⟩))
      · exact (gives active free).of_eq (granted.trans (if_neg fun ⟨requested, _, left, room⟩ => none ⟨requested, left, room⟩))
    · refine (gives active free).of_eq ((congrArg Dev.grantEngine moved.drainEvents_eq).trans ?_)
      rw [show moved.engine.events = [] from none, Dev.withEvents_nil (d := moved) none, Dev.grantEngine_eq]
      exact if_neg fun ⟨requested, _⟩ => nomatch (quiet.symm.trans requested :)
    · refine (becomes_freeCcr t i s).of_eq (if_neg fun ⟨active, free⟩ => ?_)
      obtain rests | outside := other
      · exact nomatch rests.symm.trans active
      · exact outside ((x.slots.frees_iff _).1 free)

/-! ## RECORD_READ_ERROR (R84) -/

theorem becomes_recordReadError (t : Moment) (r : RingId) (s : State) :
    Becomes (.recordReadError t r) s ((s.dev.tick t).recordError r) := rfl

/-- Giving up changes of the ring its head alone (R76). -/
theorem Dev.rings_giveUp_head (d : Dev) (r : RingId) :
    ∃ head, (d.giveUp r).rings = (d.setRing r { d.ring r with head := head }).rings := by
  cases bound : (d.ring r).binding with
  | some b => exact ⟨_, Dev.rings_giveUp bound⟩
  | none =>
    refine ⟨(d.ring r).head, ?_⟩
    rw [show d.giveUp r = d by simp [Dev.giveUp, bound], Dev.setRing_ring]

/-- The judgement of R81, of a ring with no read in flight: its state and head alone may change. -/
theorem Dev.rings_judgeStopping_of_not_reading {d : Dev} {r : RingId} (free : (d.ring r).reading = none)
    (stopping : (d.ring r).state = .stopping) :
    ∃ head, (d.judgeStopping r).rings = (d.setRing r { d.ring r with
      state := if (d.ring r).quiet then .stopped else .stopping, head := head }).rings := by
  by_cases quiet : (d.ring r).quiet = true
  · obtain ⟨head, up⟩ := (d.setRing r { d.ring r with state := .stopped }).rings_giveUp_head r
    refine ⟨head, ?_⟩
    rw [Dev.judgeStopping, if_pos ⟨stopping, free, quiet⟩, if_pos quiet]
    obtain ⟨-, -, ⟨rings, -⟩, -⟩ := ((d.setRing r { d.ring r with state := .stopped }).giveUp r).completeParked_keeps
      (Command.isRingStop r) .done 0
    rw [rings, up, Dev.setRing_setRing, Dev.ring_setRing_self]
  · refine ⟨(d.ring r).head, ?_⟩
    rw [Dev.judgeStopping, if_neg fun ⟨_, _, other⟩ => quiet other, if_neg quiet, ← stopping, Dev.setRing_ring]

theorem Dev.Answers.events {d e : Dev} (answers : d.Answers e) : e.engine.events = d.engine.events :=
  (congrArg Engine.events answers.engine :)

/-- What entering an event does is the same in a part with other rings. -/
theorem Dev.enterEvent_setRing (d : Dev) (r : RingId) (x : TransRing) (kind : EventKind) (object : Nat) :
    (d.setRing r x).enterEvent kind object = (d.enterEvent kind object).setRing r x := by
  by_cases pending : ∃ e ∈ d.engine.events, e.kind = kind ∧ e.object = object
  · rw [Dev.enterEvent_of_pending pending, Dev.enterEvent_of_pending (d := d.setRing r x) pending]
    rfl
  · rw [Dev.enterEvent_of_new pending, Dev.enterEvent_of_new (d := d.setRing r x) pending]
    rfl

/-- Settles O13: the ring's read ends, the event is entered, and a STOPPING ring is judged. -/
theorem recordReadErrorFaults : Obligations.RecordReadErrorFaults := by
  intro t r s read x up reading
  let faulted : TransRing := { x with reading := none, state := if x.state = .active then .faulted else x.state }
  let entered : Dev := ((s.dev.tick t).enterEvent .ringFault r.val).setRing r faulted
  have ends : (s.dev.tick t).recordError r = entered.judgeStopping r := by
    have notResetting : ¬ (s.dev.tick t).resetting = true := fun resetting => up ((Dev.resetting_iff _).1 resetting)
    rw [Dev.recordError, if_neg notResetting]
    dsimp only
    rw [show ((s.dev.tick t).ring r).reading = some read from reading]
    exact congrArg (fun d => Dev.judgeStopping d r) (Dev.enterEvent_setRing ..)
  have own : entered.ring r = faulted := Dev.ring_setRing_self ..
  refine ⟨fun runs => ?_, fun stopping => ?_, fun d kind object => ⟨Dev.enterEvent_of_pending, Dev.enterEvent_of_new⟩⟩
  · refine (becomes_recordReadError t r s).of_eq (ends.trans ?_)
    rw [Dev.enterEvent_setRing]
    refine if_neg fun ⟨stopping, _⟩ => ?_
    rw [own] at stopping
    by_cases active : x.state = .active
    · exact nomatch (if_pos active).symm.trans stopping
    · exact runs ((if_neg active).symm.trans stopping)
  · obtain ⟨head, rings⟩ := Dev.rings_judgeStopping_of_not_reading (d := entered) (r := r) (by rw [own])
      (by rw [own]; exact (if_neg (by simp [stopping])).trans stopping)
    have now : (entered.judgeStopping r).ring r = { faulted with
        state := if x.quiet then .stopped else .stopping, head := head } := by
      rw [Dev.ring_congr rings, Dev.ring_setRing_self, own]
      rfl
    have calm := entered.judgeStopping_calm r
    obtain ⟨-, ⟨channels, stations⟩, -⟩ := entered.judgeStopping_keeps r
    obtain ⟨⟨-, alert, -⟩, ⟨channels', stations'⟩, -⟩ := (s.dev.tick t).enterEvent_keeps .ringFault r.val
    refine ⟨_, (becomes_recordReadError t r s).of_eq ends, rfl, rfl, ?_, ?_, ?_, ?_, calm.answers.events, channels.trans channels',
      stations.trans stations', ?_⟩
    · exact (congrArg TransRing.state now :)
    · exact (congrArg TransRing.reading now :)
    · exact (congrArg TransRing.fetch now :)
    · exact (congrArg TransRing.staging now :)
    · obtain ⟨-, alert', -⟩ := calm.same
      exact alert'.trans alert

end Sys2Proof.Machine
end

section
/-! PROOFS. Parked commands answered (R152), the codes of the commands (R154 to R161, R175), and the wind-down of the channels
when the part halts (R47, R165). -/

namespace Sys2Proof.Machine

/-! ## The parked list -/

theorem findParked_of_first {p : Command → Bool} {before behind : List Parked} {k : Parked}
    (waits : k.matchesCommand p = true) (first : ∀ j ∈ before, j.matchesCommand p = false) :
    (before ++ k :: behind).find? (fun j => j.matchesCommand p) = some k :=
  List.find?_eq_some_iff_append.2 ⟨waits, before, behind, rfl, fun j mem => by simp [first j mem]⟩

theorem markPosting_of_first {p : Command → Bool} {before behind : List Parked} {k : Parked}
    (waits : k.matchesCommand p = true) (first : ∀ j ∈ before, j.matchesCommand p = false) :
    markPosting p (before ++ k :: behind) = before ++ { k with waiting := false } :: behind := by
  induction before with
  | nil => exact if_pos waits
  | cons j before ih =>
    have other : ¬ j.matchesCommand p = true := by simp [first j List.mem_cons_self]
    rw [List.cons_append, markPosting, if_neg other, ih fun i mem => first i (List.mem_cons_of_mem _ mem), List.cons_append]

/-- The command answered stays on the list, POSTING (R152). -/
theorem mem_markPosting_of_find {p : Command → Bool} {parked : List Parked} {k : Parked}
    (found : parked.find? (fun j => j.matchesCommand p) = some k) : { k with waiting := false } ∈ markPosting p parked := by
  obtain ⟨waits, before, behind, rfl, first⟩ := List.find?_eq_some_iff_append.1 found
  rw [markPosting_of_first waits fun j mem => by simpa using first j mem]
  simp

/-- A command that is POSTING stays so. -/
theorem mem_markPosting_of_posting {p : Command → Bool} {parked : List Parked} {k : Parked} (mem : k ∈ parked)
    (posting : k.waiting = false) : k ∈ markPosting p parked := by
  induction parked with
  | nil => exact mem
  | cons j rest ih =>
    rw [markPosting]
    obtain rfl | inRest := List.mem_cons.1 mem
    · rw [if_neg (by simp [Parked.matchesCommand, posting])]
      exact List.mem_cons_self
    · split
      · exact List.mem_cons_of_mem _ inRest
      · exact List.mem_cons_of_mem _ (ih inRest)

/-! ## The codes of the commands (R175) -/

/-- The command code of R154 to R161. -/
def Command.code : Command → Nat
  | .nop => 1
  | .ringSetup _ _ _ => 2
  | .ringStart _ => 3
  | .ringStop _ => 4
  | .ringFlush _ => 5
  | .cringSetup _ _ _ => 6
  | .channelConfig _ _ _ _ _ => 7
  | .channelEnable _ _ => 8
  | .channelDisable _ => 9
  | .channelReset _ => 10
  | .scheduleWrite _ _ _ => 11
  | .scheduleCommit _ _ _ => 12
  | .scheduleCancel _ => 13
  | .stationSet _ _ _ => 14
  | .stationRead _ _ => 15
  | .stationRelease _ _ => 16
  | .filterWrite _ _ => 17
  | .filterBins _ => 18
  | .filterMode _ _ => 19
  | .alertMap _ => 20
  | .countersRead _ _ => 21

/-- A parse that yields commands of one code alone. -/
def Yields (n : Nat) (parse : Option Command) : Prop := ∀ c, parse = some c → c.code = n

theorem Yields.some {n : Nat} {c : Command} (code : c.code = n) : Yields n (some c) := by
  rintro _ ⟨⟩
  exact code

theorem Yields.none {n : Nat} : Yields n none := nofun

theorem Yields.bind {α : Type} {n : Nat} {x : Option α} {f : α → Option Command} (yields : ∀ a, Yields n (f a)) :
    Yields n (x >>= f) := by
  intro c parsed
  obtain ⟨a, -, parsed⟩ := Option.bind_eq_some_iff.1 parsed
  exact yields a c parsed

theorem Yields.map {α : Type} {n : Nat} {x : Option α} {f : α → Command} (code : ∀ a, (f a).code = n) : Yields n (x.map f) := by
  intro c parsed
  obtain ⟨a, -, rfl⟩ := Option.map_eq_some_iff.1 parsed
  exact code a

theorem Yields.ite {n : Nat} {p : Prop} [Decidable p] {x y : Option Command} (left : Yields n x) (right : Yields n y) :
    Yields n (if p then x else y) := by
  split
  · exact left
  · exact right

/-- A record is parsed to a command of its own code. -/
theorem parseCommand_yields (r : Record) (n : Nat) : Yields n (parseCommand r n) := by
  match n with
  | 0 => exact .none
  | 1 => exact .some rfl
  | 2 => exact .bind fun _ => .bind fun _ => .bind fun _ => .bind fun _ => .bind fun _ => .bind fun _ => .some rfl
  | 3 => exact .map fun _ => rfl
  | 4 => exact .map fun _ => rfl
  | 5 => exact .map fun _ => rfl
  | 6 => exact .bind fun _ => .bind fun _ => .bind fun _ => .some rfl
  | 7 => exact .bind fun _ => .bind fun _ => .bind fun _ => .bind fun _ => .bind fun _ => .ite (.some rfl) .none
  | 8 => exact .bind fun _ => .some rfl
  | 9 => exact .map fun _ => rfl
  | 10 => exact .map fun _ => rfl
  | 11 => exact .bind fun _ => .bind fun _ => .bind fun _ => .bind fun _ => .some rfl
  | 12 => exact .bind fun _ => .bind fun _ => .some rfl
  | 13 => exact .map fun _ => rfl
  | 14 =>
    exact .bind fun _ => .bind fun _ => .bind fun _ => .bind fun _ => .bind fun _ => .bind fun _ => .ite (.some rfl) .none
  | 15 => exact .bind fun _ => .bind fun _ => .some rfl
  | 16 => exact .bind fun _ => .bind fun _ => .some rfl
  | 17 =>
    exact .bind fun _ => .ite
      (.bind fun _ => .bind fun _ => .ite (.bind fun _ => .some rfl) (.bind fun _ => .some rfl)) (.some rfl)
  | 18 => exact .some rfl
  | 19 => exact .bind fun _ => .bind fun _ => .some rfl
  | 20 =>
    exact .bind fun _ => .bind fun _ => .bind fun _ => .bind fun _ => .bind fun _ => .bind fun _ => .bind fun _ => .bind fun _ =>
      .some rfl
  | 21 => exact .map fun _ => rfl
  | _ + 22 => exact .none

theorem commandOf_eq_some_iff (r : Record) (c : Command) : commandOf r = some c ↔ checkRecord r = .pass c := by
  unfold commandOf
  split <;> simp_all

/-- The code that the record of a command carries. -/
theorem recordCode_of_commandOf {r : Record} {c : Command} (named : commandOf r = some c) : recordCode r = c.code := by
  have passes := (commandOf_eq_some_iff r c).1 named
  simp only [checkRecord] at passes
  split at passes
  · contradiction
  · split at passes
    · contradiction
    · split at passes
      case h_1 parsed =>
        cases passes
        exact (parseCommand_yields r _ _ parsed).symm
      case h_2 => contradiction

/-! ## Wind-down (R47) -/

/-- A channel as the halt of the part leaves it. -/
def Channel.wound (c : Channel) : Channel := if c.stopsAtOnce then c.toOff else c

theorem Channel.stopsAtOnce_iff (c : Channel) :
    c.stopsAtOnce = true ↔ c.state ∈ [.idle, .quietWait] ∨ (c.state = .listening ∧ c.lineActive = false) := by
  unfold Channel.stopsAtOnce
  split <;> simp_all

theorem Channel.wound_of_not_stops {c : Channel} (goes : ¬ c.stopsAtOnce = true) : c.wound = c := if_neg goes

theorem Channel.wound_of_stops {c : Channel} (stops : c.stopsAtOnce = true) : c.wound = c.toOff := if_pos stops

/-- A channel wound down does not stop again. -/
theorem Channel.not_stops_wound (c : Channel) : ¬ c.wound.stopsAtOnce = true := by
  unfold Channel.wound
  split
  · exact Bool.false_ne_true
  · assumption

/-- Stopping takes the channel to OFF and leaves the others. -/
theorem Dev.chan_stopChannel (d : Dev) (ch k : ChanId) :
    (d.stopChannel ch).chan k = if k = ch then (d.chan ch).toOff else d.chan k := by
  obtain ⟨-, ⟨channels, -⟩, -⟩ := (d.modChan ch Channel.toOff).completeParked_keeps (Command.isDisable ch) .done 0
  rw [Dev.stopChannel, Dev.chan_congr channels, Dev.modChan]
  obtain rfl | other := eq_or_ne k ch
  · rw [Dev.chan_setChan_self, if_pos rfl]
  · rw [Dev.chan_setChan_ne _ _ other, if_neg other]

theorem Dev.chan_windDown (d : Dev) (ch k : ChanId) :
    (d.windDown ch).chan k = if k = ch then (d.chan ch).wound else d.chan k := by
  rw [Dev.windDown]
  split
  case isTrue stops => rw [Dev.chan_stopChannel, Channel.wound_of_stops stops]
  case isFalse goes =>
    rw [Channel.wound_of_not_stops goes]
    split
    case isTrue same => rw [same]
    case isFalse => rfl

theorem Dev.windDown_of_not_stops {d : Dev} {ch : ChanId} (goes : ¬ (d.chan ch).stopsAtOnce = true) : d.windDown ch = d :=
  if_neg goes

/-- The channels that have wound down are those of the list. -/
theorem Dev.chan_foldl_windDown (chs : List ChanId) (d : Dev) (k : ChanId) :
    (chs.foldl Dev.windDown d).chan k = if k ∈ chs then (d.chan k).wound else d.chan k := by
  induction chs generalizing d with
  | nil => simp
  | cons ch chs ih =>
    rw [List.foldl_cons, ih, Dev.chan_windDown]
    obtain rfl | other := eq_or_ne k ch
    · simp [Channel.wound_of_not_stops (Channel.not_stops_wound _)]
    · simp [other]

theorem Dev.stopChannel_answers (d : Dev) (ch : ChanId) : d.Answers (d.stopChannel ch) :=
  .trans (b := d.modChan ch Channel.toOff) (.of_same rfl rfl rfl) (Dev.completeParked_answers ..)

theorem Dev.windDown_answers (d : Dev) (ch : ChanId) : d.Answers (d.windDown ch) := by
  unfold Dev.windDown
  split
  · exact d.stopChannel_answers ch
  · exact .of_same rfl rfl rfl

/-- The wind-down answers parked commands, and touches the channels besides. -/
theorem Dev.foldl_windDown_keeps (chs : List ChanId) (d : Dev) :
    d.Answers (chs.foldl Dev.windDown d) ∧ Same d (chs.foldl Dev.windDown d) ∧ SameRings d (chs.foldl Dev.windDown d) ∧
      (chs.foldl Dev.windDown d).stations = d.stations ∧ (chs.foldl Dev.windDown d).port = d.port := by
  induction chs generalizing d with
  | nil => exact ⟨.of_same rfl rfl rfl, by simp [Same], by simp [SameRings], rfl, rfl⟩
  | cons ch chs ih =>
    obtain ⟨answers, same, rings, stations, port⟩ := ih (d.windDown ch)
    obtain ⟨same', rings', stations', port', -⟩ := d.windDown_keeps ch
    refine ⟨(d.windDown_answers ch).trans answers, ?_, ?_, stations.trans stations', port.trans port'⟩
    · simp_all [Same]
    · simp_all [SameRings]

/-- With no CHANNEL_DISABLE waiting on a channel that stops, nothing is answered. -/
theorem Dev.foldl_windDown_of_free {chs : List ChanId} {d : Dev}
    (free : ∀ ch, (d.chan ch).stopsAtOnce = true → d.disableParked ch = false) :
    (chs.foldl Dev.windDown d).engine = d.engine ∧ (chs.foldl Dev.windDown d).ccr = d.ccr := by
  induction chs generalizing d with
  | nil => exact ⟨rfl, rfl⟩
  | cons ch chs ih =>
    have step : (d.windDown ch).engine = d.engine ∧ (d.windDown ch).ccr = d.ccr := by
      by_cases stops : (d.chan ch).stopsAtOnce = true
      · have none : (d.modChan ch Channel.toOff).hasParked (Command.isDisable ch) = false := free ch stops
        rw [Dev.windDown, if_pos stops, Dev.stopChannel, Dev.completeParked_of_not_hasParked none]
        exact ⟨rfl, rfl⟩
      · rw [Dev.windDown_of_not_stops stops]
        exact ⟨rfl, rfl⟩
    obtain ⟨engine, ccr⟩ := step
    obtain ⟨engine', ccr'⟩ := ih (d := d.windDown ch) fun k stops => by
      rw [Dev.chan_windDown] at stops
      split at stops
      · exact absurd stops (Channel.not_stops_wound _)
      · exact (Dev.hasParked_congr (congrArg Engine.parked engine) _).trans (free k stops)
    exact ⟨engine'.trans engine, ccr'.trans ccr⟩

/-- The CONTROL entry of a CHANNEL_DISABLE answered DONE on a channel in OFF (R153). -/
theorem Dev.controlEntry_disable {d : Dev} {r : Record} {ch : ChanId} (named : commandOf r = some (.channelDisable ch))
    (off : (d.chan ch).state = .off) :
    d.controlEntry r .done 0 [] = { kind := .control, source := 9, tag := recordTag r, cycle := (d.chan ch).cycle } := by
  have window : d.windowIndex ch = 0 := if_pos off
  simp only [Dev.controlEntry, named, recordCode_of_commandOf named, Option.bind_some, Command.channel?, Command.station?, window]
  rfl

theorem Command.eq_of_isDisable {c : Command} {ch : ChanId} (disable : c.isDisable ch = true) : c = .channelDisable ch := by
  cases c <;> simp_all [Command.isDisable]

/-- What answering a CHANNEL_DISABLE on a channel that stops leaves: the command POSTING, and its entry. -/
def Dev.DisableAnswered (d : Dev) (k : Parked) (cycle : Cycle) : Prop :=
  { k with waiting := false } ∈ d.engine.parked ∧
  { entry := { kind := .control, source := 9, tag := recordTag k.record, cycle := cycle }
    source := .parked k.record } ∈ d.ccr.slots.posting

theorem Dev.DisableAnswered.windDown {d : Dev} {k : Parked} {cycle : Cycle} (answered : d.DisableAnswered k cycle) (ch : ChanId) :
    (d.windDown ch).DisableAnswered k cycle := by
  obtain ⟨parked, posted⟩ := answered
  obtain ⟨own, -, ccr⟩ := (d.windDown_answers ch).posted
  refine ⟨?_, by rw [ccr]; exact List.mem_append_left _ posted⟩
  unfold Dev.windDown Dev.stopChannel
  split
  · cases found : (d.modChan ch Channel.toOff).findParked (Command.isDisable ch) with
    | none =>
      rw [Dev.completeParked, found]
      exact parked
    | some j =>
      rw [Dev.completeParked_of_found found]
      exact mem_markPosting_of_posting parked rfl
  · exact parked

theorem Dev.DisableAnswered.foldl {chs : List ChanId} {d : Dev} {k : Parked} {cycle : Cycle}
    (answered : d.DisableAnswered k cycle) : (chs.foldl Dev.windDown d).DisableAnswered k cycle := by
  induction chs generalizing d with
  | nil => exact answered
  | cons ch chs ih => exact ih (answered.windDown ch)

/-- The CHANNEL_DISABLE that waits on a channel of the list that stops is answered. -/
theorem Dev.disableAnswered_foldl {chs : List ChanId} {d : Dev} {ch : ChanId} {k : Parked} (listed : ch ∈ chs)
    (stops : (d.chan ch).stopsAtOnce = true) (found : d.findParked (Command.isDisable ch) = some k) :
    (chs.foldl Dev.windDown d).DisableAnswered k (d.chan ch).cycle := by
  induction chs generalizing d with
  | nil => contradiction
  | cons c chs ih =>
    obtain rfl | other := eq_or_ne ch c
    · refine Dev.DisableAnswered.foldl (d := d.windDown ch) ?_
      have found' : (d.modChan ch Channel.toOff).findParked (Command.isDisable ch) = some k := found
      have off : (d.modChan ch Channel.toOff).chan ch = (d.chan ch).toOff := Dev.chan_setChan_self ..
      have named : commandOf k.record = some (.channelDisable ch) := by
        have kind := List.find?_some found
        cases command : commandOf k.record with
        | none => simp [Parked.matchesCommand, command] at kind
        | some c =>
          have disable : c.isDisable ch = true := by simpa [Parked.matchesCommand, command] using (Bool.and_eq_true_iff.1 kind).2
          rw [Command.eq_of_isDisable disable]
      rw [Dev.windDown, if_pos stops, Dev.stopChannel, Dev.completeParked_of_found found',
        Dev.controlEntry_disable named (by rw [off]; rfl), off, Slots.post_eq]
      exact ⟨mem_markPosting_of_find found, List.mem_append_right _ List.mem_cons_self⟩
    · have inRest : ch ∈ chs := (List.mem_cons.1 listed).resolve_left other
      have untouched : (d.windDown c).chan ch = d.chan ch := by rw [Dev.chan_windDown, if_neg other]
      have stillFound : (d.windDown c).findParked (Command.isDisable ch) = some k := by
        unfold Dev.windDown Dev.stopChannel
        split
        · cases answered : (d.modChan c Channel.toOff).findParked (Command.isDisable c) with
          | none =>
            rw [Dev.completeParked, answered]
            exact found
          | some j =>
            rw [Dev.completeParked_of_found answered]
            refine (find_markPosting (fun x disable => ?_) _).trans found
            rw [Command.eq_of_isDisable disable]
            simpa [Command.isDisable] using other
        · exact found
      have answered := ih (d := d.windDown c) inRest (by rwa [untouched]) stillFound
      rwa [untouched] at answered

/-! ## Halts -/

theorem mem_allFour (ch : Fin 4) : ch ∈ allFour := by
  revert ch
  decide

/-- An equation of the whole part from the blocks that stay. -/
theorem Dev.eq_of_blocks {d e : Dev} (now : e.now = d.now) (rings : SameRings d e) (stations : e.stations = d.stations)
    (alert : e.alert = d.alert) :
    e = { d with port := e.port, engine := e.engine, ccr := e.ccr, channels := e.channels } := by
  cases d
  cases e
  simp_all [SameRings]

theorem becomes_ccrWriteError (t : Moment) (s : State) : Becomes (.ccrWriteError t) s (s.dev.tick t).ccrError := rfl

theorem becomes_statusWriteError (t : Moment) (f : FieldId) (s : State) :
    Becomes (.statusWriteError t f) s ((s.dev.tick t).statusError f) := rfl

/-- A part that can halt is not RESETTING. -/
theorem Dev.not_resetting_of_halts {d : Dev} (halts : d.port.part = .running ∨ d.port.part = .starting) : ¬ d.resetting = true := by
  rw [Dev.resetting_iff]
  obtain running | starting := halts
  · simp [running]
  · simp [starting]

theorem Dev.halt_of_halts {d : Dev} (halts : d.port.part = .running ∨ d.port.part = .starting) (cause : HaltCause) :
    d.halt cause = d.haltedBy cause := by
  rw [halt_eq, if_pos halts.symm]

theorem Dev.ccrError_of_writing {d : Dev} (halts : d.port.part = .running ∨ d.port.part = .starting)
    (writing : d.ccr.slots.stage = .writing) :
    d.ccrError = Dev.haltedBy { d with ccr := { d.ccr with slots := { d.ccr.slots with stage := .idle } } } .ccrWrite := by
  rw [Dev.ccrError, if_neg (Dev.not_resetting_of_halts halts), if_neg (not_not_intro writing)]
  exact Dev.halt_of_halts (d := { d with ccr := { d.ccr with slots := { d.ccr.slots with stage := .idle } } }) halts .ccrWrite

theorem Dev.statusError_of_inProgress {d : Dev} {f : FieldId} {q : StatusReq}
    (halts : d.port.part = .running ∨ d.port.part = .starting) (inProgress : (d.fieldQueue f).inProgress = some q) :
    d.statusError f = (d.setField f { d.fieldQueue f with inProgress := none }).haltedBy .statusWrite := by
  rw [Dev.statusError, if_neg (Dev.not_resetting_of_halts halts), inProgress]
  exact Dev.halt_of_halts (d := d.setField f { d.fieldQueue f with inProgress := none }) halts .statusWrite

/-- Settles O20: the two errors halt the part, and a halt winds down its channels in order. -/
theorem writeErrorsHalt : Obligations.WriteErrorsHalt := by
  intro t f s d halts
  refine ⟨fun halting writing => ?_, fun q halting inProgress => ?_, fun d cause => ?_⟩
  · exact (becomes_ccrWriteError t s).of_eq (Dev.ccrError_of_writing (d := d) halting writing)
  · exact (becomes_statusWriteError t f s).of_eq (Dev.statusError_of_inProgress (d := d) halting inProgress)
  intro u stops
  let d' : Dev := { d with port := { d.port with
    part := .halted, haltCause := cause, start := .none, intStatus := d.port.intStatus ||| 0x20 } }
  obtain ⟨answers, ⟨now, alert, -⟩, rings, stations, port⟩ := Dev.foldl_windDown_keeps allFour d'
  have chan (ch : ChanId) : u.chan ch = (d.chan ch).wound :=
    (Dev.chan_foldl_windDown allFour d' ch).trans (if_pos (mem_allFour ch))
  have stops_iff (ch : ChanId) : stops ch ↔ (d.chan ch).stopsAtOnce = true := ((d.chan ch).stopsAtOnce_iff).symm
  obtain ⟨own, -, ccr⟩ := answers.posted
  have stage : u.ccr.slots.stage = d.ccr.slots.stage := answers.stage rfl
  have posting : u.ccr.slots.posting = d.ccr.slots.posting ++ own := (congrArg (fun c : Ccr => c.slots.posting) ccr :)
  have ccr' : u.ccr = { d.ccr with slots := { d.ccr.slots with posting := u.ccr.slots.posting } } := by
    rw [posting]
    exact ccr.trans (congrArg (fun x => { d.ccr with slots := { d.ccr.slots with
      posting := d.ccr.slots.posting ++ own, stage := x } }) stage)
  refine ⟨port, fun ch => ⟨fun stop => ?_, fun goes => ?_⟩, fun free => ?_, fun ch k before behind stop parked waits first => ?_, ?_,
    answers.records, ?_⟩
  · exact (chan ch).trans (Channel.wound_of_stops ((stops_iff ch).1 stop))
  · exact (chan ch).trans (Channel.wound_of_not_stops fun stop => goes ((stops_iff ch).2 stop))
  · exact Dev.foldl_windDown_of_free (d := d') fun ch stop => free ch ((stops_iff ch).2 stop)
  · have found : d'.findParked (Command.isDisable ch) = some k := by
      rw [Dev.findParked, show d'.engine.parked = before ++ k :: behind from parked]
      exact findParked_of_first waits first
    exact Dev.disableAnswered_foldl (mem_allFour ch) ((stops_iff ch).1 stop) found
  · have blocks : u = { d with port := u.port, engine := u.engine, ccr := u.ccr, channels := u.channels } :=
      Dev.eq_of_blocks (d := d') now rings stations alert
    exact blocks.trans (congrArg₂ (fun e c => { d with port := u.port, engine := e, ccr := c, channels := u.channels })
      answers.engine ccr')
  · exact ⟨own, posting.symm⟩

end Sys2Proof.Machine
end

section
/-! PROOFS. The ends of reads (R148, R164, R171) and of the writes into host memory (R137, R166, R167). -/

namespace Sys2Proof.Machine

/-! ## The root record (R164, R176) -/

theorem aligned_iff (a : Addr) : aligned a = true ↔ a.toNat % 64 = 0 := by
  rw [aligned, beq_iff_eq]

/-- The sizes allowed are the powers of two from 8 to 4096. -/
theorem sizeOk_iff (n : Nat) : sizeOk n = true ↔ ∃ k, 3 ≤ k ∧ k ≤ 12 ∧ n = 2 ^ k := by
  have sizes : [8, 16, 32, 64, 128, 256, 512, 1024, 2048, 4096] = (List.range' 3 10).map (2 ^ ·) := by decide
  rw [sizeOk, List.contains_iff_mem, sizes, List.mem_map]
  refine exists_congr fun k => ?_
  rw [List.mem_range'_1]
  constructor
  · rintro ⟨⟨least, most⟩, rfl⟩
    exact ⟨least, by omega, rfl⟩
  · rintro ⟨least, most, rfl⟩
    exact ⟨⟨least, by omega⟩, rfl⟩

/-- The reserved bytes of the root record (R176). -/
theorem rootReserved_iff (data : Record) : reservedZero data rootFields = true ↔
    ∀ i, (80 ≤ i ∧ i < 128) ∨ (208 ≤ i ∧ i < 256) ∨ (320 ≤ i ∧ i < 512) → data.getLsbD i = false := by
  have outside (i : Nat) (inside : i < 512) : (¬ ∃ f ∈ rootFields, f.1 ≤ i ∧ i < f.1 + f.2) ↔
      (80 ≤ i ∧ i < 128) ∨ (208 ≤ i ∧ i < 256) ∨ (320 ≤ i ∧ i < 512) := by
    simp only [rootFields, List.mem_cons, exists_eq_or_imp, exists_eq_left, List.not_mem_nil, or_false]
    omega
  rw [← Bool.not_eq_false, reservedZero_eq_false_iff]
  constructor
  · intro none i reserved
    have inside : i < 512 := by omega
    exact Bool.eq_false_iff.2 fun set => none ⟨i, set, (outside i inside).2 reserved⟩
  · rintro zero ⟨i, set, free⟩
    exact nomatch (zero i ((outside i (BitVec.lt_of_getLsbD set)).1 free)).symm.trans set

theorem becomes_rootReadData (t : Moment) (data : Record) (s : State) :
    Becomes (.rootReadData t data) s ((s.dev.tick t).rootData data) := rfl

theorem becomes_rootReadError (t : Moment) (s : State) : Becomes (.rootReadError t) s (s.dev.tick t).rootError := rfl

section rootRead

variable {d : Dev} {address : Nat} {issued : Moment} (starting : d.port.part = .starting)
  (reading : d.port.start = .reading address issued)

include starting reading

theorem Dev.rootData_of_reading (data : Record) : d.rootData data =
    if rootOk data then
      (Dev.publish { d with port := { d.port with
        start := .publishing (RootRecord.ofRecord data) 2, statusAddr := (RootRecord.ofRecord data).statusAddr } }
          fieldCtl 0 .start).publish fieldCcr 0 .start
    else d.haltedBy .rootInvalid := by
  rw [Dev.rootData, if_neg (Dev.not_resetting_of_halts (.inr starting)), reading]
  dsimp only
  rw [Dev.halt_of_halts (.inr starting)]
  rfl

theorem Dev.rootError_of_reading : d.rootError = d.haltedBy .rootRead := by
  rw [Dev.rootError, if_neg (Dev.not_resetting_of_halts (.inr starting)), reading]
  exact Dev.halt_of_halts (.inr starting) _

end rootRead

/-- Settles O11: the checks one by one, and both ends of the read. -/
theorem rootReadEnds : Obligations.RootReadEnds := by
  refine ⟨?checks, ?ends⟩
  case checks =>
    intro data root
    rw [rootOk]
    simp only [Bool.and_eq_true, aligned_iff, sizeOk_iff, rootReserved_iff]
    exact ⟨fun ⟨⟨⟨⟨⟨control, ccr⟩, size⟩, size'⟩, status⟩, zero⟩ => ⟨control, ccr, status, size, size', zero⟩,
      fun ⟨control, ccr, status, size, size', zero⟩ => ⟨⟨⟨⟨⟨control, ccr⟩, size⟩, size'⟩, status⟩, zero⟩⟩
  intro t issued address data s d root starting reading
  refine ⟨fun passes => ?_, fun fails => ?_, ?_⟩
  · exact (becomes_rootReadData t data s).of_eq
      ((Dev.rootData_of_reading (d := d) starting reading data).trans (if_pos passes))
  · exact (becomes_rootReadData t data s).of_eq
      ((Dev.rootData_of_reading (d := d) starting reading data).trans (if_neg (by simp [fails])))
  · exact (becomes_rootReadError t s).of_eq (Dev.rootError_of_reading (d := d) starting reading)

/-! ## Control records (R148, R149) -/

theorem becomes_controlReadData (t : Moment) (data : Record) (s : State) :
    Becomes (.controlReadData t data) s ((s.dev.tick t).controlData data) := rfl

theorem becomes_controlReadError (t : Moment) (s : State) :
    Becomes (.controlReadError t) s (s.dev.tick t).controlError := rfl

section controlRead

variable {d : Dev} (up : d.port.part ≠ .resetting) (reading : d.engine.phase = .reading)

include up reading

theorem Dev.controlData_of_halted (halted : d.port.part = .halted) (data : Record) :
    d.controlData data = { d with engine := { d.engine with phase := .reserved } } := by
  rw [Dev.controlData, if_neg (mt d.resetting_iff.1 up), if_neg (not_not_intro reading), if_pos (d.halted_iff.2 halted)]
  rfl

theorem Dev.controlData_of_up (running : d.port.part ≠ .halted) (data : Record) :
    d.controlData data =
      let taken := Dev.publish { d with engine := { d.engine with
        inHand := some data, read := (d.engine.read + 1) % d.engine.size, phase := .acting, answering := false } }
          fieldCtl ((d.engine.read + 1) % d.engine.size) .plain
      match checkRecord data with
      | .pass _ => taken
      | .fail status => taken.answered data status 0 [] := by
  rw [Dev.controlData, if_neg (mt d.resetting_iff.1 up), if_neg (not_not_intro reading), if_neg (mt d.halted_iff.1 running)]
  dsimp only
  cases checkRecord data with
  | pass c => rfl
  | fail status =>
    refine completeInHand_eq ?_ _ _ _
    obtain ⟨-, -, -, engine, -⟩ := (d.setEngine { d.engine with
      inHand := some data, read := advance d.engine.size d.engine.read 1, phase := .acting, answering := false }).publish_keeps
        fieldCtl (advance d.engine.size d.engine.read 1) .plain
    exact congrArg Engine.inHand engine

theorem Dev.controlError_of_reading :
    d.controlError = Dev.halt { d with engine := { d.engine with phase := .reserved } } .controlRead := by
  rw [Dev.controlError, if_neg (mt d.resetting_iff.1 up), if_neg (not_not_intro reading)]
  rfl

end controlRead

/-- Settles O14: the record is taken unless HALTED, and an error halts the part. -/
theorem controlReadEnds : Obligations.ControlReadEnds := by
  intro t data s d e read taken up reading
  have error := (becomes_controlReadError t s).of_eq (Dev.controlError_of_reading (d := d) up reading)
  refine ⟨fun c running passes => ?_, fun status running fails => ?_, fun halted => ?_, fun running => ?_, fun halted => ?_⟩
  · refine (becomes_controlReadData t data s).of_eq ((Dev.controlData_of_up (d := d) up reading running data).trans ?_)
    rw [passes]
    rfl
  · refine (becomes_controlReadData t data s).of_eq ((Dev.controlData_of_up (d := d) up reading running data).trans ?_)
    rw [fails]
    rfl
  · exact (becomes_controlReadData t data s).of_eq (Dev.controlData_of_halted (d := d) up reading halted data)
  · exact error.of_eq (Dev.halt_of_halts (d := { d with engine := { e with phase := .reserved } }) (.inl running) _)
  · have stays : ¬ (d.port.part = .starting ∨ d.port.part = .running) := by simp [d, halted]
    exact error.of_eq ((halt_eq ..).trans (if_neg stays))

/-! ## The read completion limit (R171) -/

theorem Dev.halt_now (d : Dev) (cause : HaltCause) : (d.halt cause).now = d.now := by
  unfold Dev.halt
  split
  · obtain ⟨-, ⟨now, -⟩, -⟩ := Dev.foldl_windDown_keeps allFour
      ((d.setPort { d.port with part := .halted, haltCause := cause, start := .none }).setCause haltBit)
    exact now
  · rfl

theorem Dev.rootError_now (d : Dev) : d.rootError.now = d.now := by
  unfold Dev.rootError
  split
  · rfl
  · split
    · exact d.halt_now _
    · rfl

theorem Dev.recordError_now (d : Dev) (r : RingId) : (d.recordError r).now = d.now := by
  unfold Dev.recordError
  split
  · rfl
  · dsimp only
    split
    · obtain ⟨⟨judged, -⟩, -⟩ := (((d.setRing r { d.ring r with
        reading := none, state := if (d.ring r).state = .active then .faulted else (d.ring r).state }).enterEvent
          .ringFault r.val)).judgeStopping_keeps r
      obtain ⟨⟨entered, -⟩, -⟩ := (d.setRing r { d.ring r with
        reading := none, state := if (d.ring r).state = .active then .faulted else (d.ring r).state }).enterEvent_keeps
          .ringFault r.val
      exact judged.trans entered
    · rfl

theorem Dev.controlError_now (d : Dev) : d.controlError.now = d.now := by
  unfold Dev.controlError
  split
  · rfl
  · split
    · rfl
    · exact Dev.halt_now _ _

theorem becomes_readCompletionLimitExpiry (op : ReadOp) (s : State) :
    Becomes (.readCompletionLimitExpiry op) s (s.dev.readLimit op) := rfl

/-- Settles O15: the read fails at its limit as it does with an error. -/
theorem readLimitFailsTheRead : Obligations.ReadLimitFailsTheRead := by
  intro op s failed
  refine ⟨fun issued inFlight => ?_, fun none => ?_⟩
  · have limit (e : Dev) (fails : s.dev.readLimit op = e) (now : e.now = max s.dev.now (issued + 400000))
        (same : Becomes (failed issued) s e) :
        exec (.readCompletionLimitExpiry op) s = exec (failed issued) s ∧
          ∃ u, exec (.readCompletionLimitExpiry op) s = .next u ∧ u.pending = s.pending ∧ u.mem = s.mem ∧
            u.dev.now = max s.dev.now (issued + 400000) := by
      have runs := (becomes_readCompletionLimitExpiry op s).of_eq fails
      exact ⟨runs.trans same.symm, _, runs, rfl, rfl, now⟩
    cases op with
    | root => exact limit (s.dev.tick (issued + 400000)).rootError (by rw [Dev.readLimit, inFlight]; rfl) (Dev.rootError_now _) rfl
    | record r =>
      exact limit ((s.dev.tick (issued + 400000)).recordError r) (by rw [Dev.readLimit, inFlight]; rfl) (Dev.recordError_now _ r) rfl
    | control =>
      exact limit (s.dev.tick (issued + 400000)).controlError (by rw [Dev.readLimit, inFlight]; rfl) (Dev.controlError_now _) rfl
  · have rests : s.dev.readLimit op = s.dev := by rw [Dev.readLimit, none]
    exact (becomes_readCompletionLimitExpiry op s).of_eq rests

/-! ## Entries written (R137) -/

theorem Entry.bytes_length (e : Entry) : e.bytes.length = 64 := by
  simp [Entry.bytes, leBytes_length, padded]

theorem exec_entryWriteEnd (t : Moment) (ring : EntryRing) (s : State) : exec (.entryWriteEnd t ring) s =
    .next { s with mem := landWrite (s.dev.entryInProgress ring) s.mem, dev := (s.dev.tick t).entryEnd ring } := rfl

theorem Dev.slotsOf_tick (d : Dev) (t : Moment) (ring : EntryRing) : (d.tick t).slotsOf ring = d.slotsOf ring := by
  cases ring <;> rfl

theorem Dev.entryEnd_of_writing {d : Dev} {ring : EntryRing} {p : Posting} {rest : List Posting} (up : d.port.part ≠ .resetting)
    (running : d.port.part ≠ .halted) (writing : (d.slotsOf ring).stage = .writing) (queue : (d.slotsOf ring).posting = p :: rest) :
    d.entryEnd ring =
      let y : Slots := { d.slotsOf ring with
        posting := rest, producer := ((d.slotsOf ring).producer + 1) % (d.slotsOf ring).size, stage := .publishing p.source
        reservations := if p.source.claims then (d.slotsOf ring).reservations else (d.slotsOf ring).reservations - 1 }
      (d.setSlots y ring).publish (producerField ring) y.producer (.publish ring) := by
  rw [Dev.entryEnd, if_neg (mt d.resetting_iff.1 up), if_neg (not_not_intro writing), if_neg (mt d.halted_iff.1 running),
    Slots.written, queue]
  rfl

/-- Settles O16: the bytes of the oldest entry land in its slot. -/
theorem entryWriteEnds : Obligations.EntryWriteEnds := by
  intro t ring s p rest x at_ y up running writing queue
  have inProgress : s.dev.entryInProgress ring = some (at_, p.entry.bytes) := by
    rw [Dev.entryInProgress, if_neg (mt s.dev.resetting_iff.1 up), writing, queue]
  have lands : landWrite (s.dev.entryInProgress ring) s.mem = Memory.writeBytes at_ p.entry.bytes s.mem := by
    rw [inProgress]
    rfl
  refine ⟨_, exec_entryWriteEnd t ring s, rfl, ?_, p.entry.bytes_length, fun i inside => ?_, fun a outside => ?_⟩
  · have slots := s.dev.slotsOf_tick t ring
    refine (Dev.entryEnd_of_writing (d := s.dev.tick t) (ring := ring) (p := p) (rest := rest) up running
      (by rwa [slots]) (by rwa [slots])).trans ?_
    rw [slots]
  · rw [lands]
    exact Memory.read_writeBytes_inside _ _ inside
  · rw [lands]
    exact Memory.read_writeBytes_outside _ _ (by rwa [p.entry.bytes_length])

/-! ## Indices written (R166, R167) -/

theorem exec_statusWriteEnd (t : Moment) (f : FieldId) (s : State) : exec (.statusWriteEnd t f) s =
    .next { s with mem := landWrite (s.dev.statusInProgress f) s.mem, dev := (s.dev.tick t).statusEnd f } := rfl

theorem FieldQueue.next_eq (q : FieldQueue) : q.next = { inProgress := q.waiting.head?, waiting := q.waiting.tail } := by
  unfold FieldQueue.next
  split
  · rename_i none
    rw [none]
    rfl
  · rename_i some
    rw [some]
    rfl

theorem Dev.statusEnd_of_inProgress {d : Dev} {f : FieldId} {q : StatusReq} (up : d.port.part ≠ .resetting)
    (inProgress : (d.fieldQueue f).inProgress = some q) :
    d.statusEnd f = (d.setField f (if d.port.part = .halted then { d.fieldQueue f with inProgress := none }
      else { inProgress := (d.fieldQueue f).waiting.head?, waiting := (d.fieldQueue f).waiting.tail })).statusReport q.purpose := by
  rw [Dev.statusEnd, if_neg (mt d.resetting_iff.1 up), inProgress]
  simp only [Dev.halted_iff, FieldQueue.next_eq]

/-- Settles O17: the four bytes of the index land in their field. -/
theorem statusWriteEnds : Obligations.StatusWriteEnds := by
  intro t f s q d at_ queue up inProgress
  have lands : landWrite (s.dev.statusInProgress f) s.mem = Memory.writeBytes at_ (leBytes q.value 4) s.mem := by
    rw [Dev.statusInProgress, if_neg (mt s.dev.resetting_iff.1 up), inProgress]
    rfl
  have ends := Dev.statusEnd_of_inProgress (d := d) up inProgress
  refine ⟨_, exec_statusWriteEnd t f s, rfl, ends, fun plain => ?_, fun i inside => ?_, fun a outside => ?_⟩
  · refine ends.trans ?_
    rw [plain]
    rfl
  · have inside' : i < (leBytes q.value 4).length := by rwa [leBytes_length]
    rw [lands]
    refine (Memory.read_writeBytes_inside _ _ inside').trans ?_
    rw [← List.getElem?_eq_getElem, leBytes_getElem? _ inside]
  · rw [lands]
    exact Memory.read_writeBytes_outside _ _ (by rwa [leBytes_length])

end Sys2Proof.Machine
end

section
/-! PROOFS. What the report of a completed status area write does (R77, R137, R151, R152, R164, R167), and the failure of an
entry write (R140). -/

namespace Sys2Proof.Machine

/-! ## The producer index published (R137) -/

theorem Dev.slotsOf_setCause (d : Dev) (bit : Nat) (ring : EntryRing) : (d.setCause bit).slotsOf ring = d.slotsOf ring := by
  cases ring <;> rfl

/-- The next entry's write starts when one is queued. -/
theorem Slots.begin_idle (x : Slots) :
    ({ x with stage := .idle } : Slots).begin = { x with stage := if x.posting = [] then .idle else .writing } := by
  unfold Slots.begin
  by_cases empty : x.posting = []
  · rw [if_neg fun ⟨_, queued⟩ => queued empty, if_pos empty]
  · rw [if_pos ⟨rfl, empty⟩, if_neg empty]

theorem Dev.published_of_publishing {d : Dev} {ring : EntryRing} {source : EntrySource} (running : d.port.part ≠ .halted)
    (publishing : (d.slotsOf ring).stage = .publishing source) :
    d.published ring = ((d.setCause (causeBit ring)).setSlots { d.slotsOf ring with
      stage := if (d.slotsOf ring).posting = [] then .idle else .writing } ring).entryDone source := by
  rw [Dev.published, if_neg (mt d.halted_iff.1 running), publishing]
  dsimp only
  rw [Dev.slotsOf_setCause, Slots.begin_idle]

/-! ## The done report of a head (R77) -/

theorem Dev.flushNoted_congr {d e : Dev} {r : RingId}
    (same : e.findParked (Command.isRingFlush r) = d.findParked (Command.isRingFlush r)) : e.flushNoted r = d.flushNoted r := by
  rw [Dev.flushNoted, same]
  rfl

/-- An answer to a command of another kind leaves a RING_FLUSH in progress (R83). -/
theorem Dev.flushNoted_completeParked {d : Dev} {r : RingId} {q : Command → Bool}
    (apart : ∀ c, Command.isRingFlush r c = true → q c = false) (status : ControlStatus) (n : Nat) :
    (d.completeParked q status n).flushNoted r = d.flushNoted r := by
  cases found : d.findParked q with
  | none => rw [Dev.completeParked, found]
  | some k =>
    rw [Dev.completeParked_of_found found]
    exact Dev.flushNoted_congr (find_markPosting apart _)

theorem Command.not_isRingStop_of_isRingFlush {r k : RingId} (c : Command) (flush : c.isRingFlush r = true) : c.isRingStop k = false := by
  cases c <;> simp_all [Command.isRingFlush, Command.isRingStop]

theorem Dev.flushNoted_judgeStopping (d : Dev) (r k : RingId) : (d.judgeStopping k).flushNoted r = d.flushNoted r := by
  unfold Dev.judgeStopping
  dsimp only
  split
  · rw [Dev.flushNoted_completeParked fun c flush => c.not_isRingStop_of_isRingFlush flush]
    obtain ⟨-, -, ⟨engine, -⟩, -⟩ := (d.setRing k { d.ring k with state := .stopped }).giveUp_keeps k
    refine Dev.flushNoted_congr ?_
    rw [Dev.findParked, engine]
    rfl
  · rfl

theorem Dev.flushNoted_judgeFaulted (d : Dev) (r k : RingId) : (d.judgeFaulted k).flushNoted r = d.flushNoted r := by
  unfold Dev.judgeFaulted
  dsimp only
  split
  · exact Dev.flushNoted_completeParked (d := d.setRing k _) (fun c flush => c.not_isRingStop_of_isRingFlush flush) _ _
  · rfl

theorem Dev.judgeFlush_of_none {d : Dev} {r : RingId} (none : d.flushNoted r = none) : d.judgeFlush r = d := by
  rw [Dev.judgeFlush, none]

/-- The judgement of R82 changes the ring's state alone. -/
theorem Dev.rings_judgeFaulted (d : Dev) (r : RingId) :
    ∃ state, (d.judgeFaulted r).rings = (d.setRing r { d.ring r with state := state }).rings := by
  unfold Dev.judgeFaulted
  dsimp only
  split
  · obtain ⟨-, -, ⟨rings, -⟩, -⟩ := (d.setRing r { d.ring r with state := .stopped }).completeParked_keeps
      (Command.isRingStop r) .done 0
    exact ⟨.stopped, rings⟩
  · refine ⟨(d.ring r).state, ?_⟩
    rw [Dev.setRing_ring]

/-- The next record becomes the head: a fresh one when a record is staged, none otherwise (R69). -/
theorem Dev.rings_newHead_cases (d : Dev) (r : RingId) :
    ∃ head : Option Head, (d.newHead r).rings = (d.setRing r { d.ring r with head := head }).rings ∧
      ((d.ring r).staging = [] → head = none) ∧
      ((d.ring r).staging ≠ [] → head.map (fun h => (h.state, h.attempts, h.holds, h.final)) = some (.staged, 0, 0, none)) := by
  by_cases empty : (d.ring r).staging = []
  · refine ⟨none, ?_, fun _ => rfl, fun staged => absurd empty staged⟩
    rw [Dev.newHead, if_pos empty]
    rfl
  · obtain ⟨v, rings⟩ := Dev.rings_newHead empty
    exact ⟨_, rings, fun none => absurd none empty, fun _ => rfl⟩

/-- A ring as a done report leaves it: the record gone, the consumer index advanced, `next` its head. -/
structure TransRing.Popped (x y : TransRing) (size : Nat) (rest : List Staged) : Prop where
  staging : y.staging = rest
  consumer : y.consumer = (x.consumer + 1) % size
  fetch : y.fetch = x.fetch
  post : y.post = x.post
  binding : y.binding = x.binding
  base : y.base = x.base
  headless : rest = [] → y.head = none
  fresh : rest ≠ [] → y.head.map (fun h => (h.state, h.attempts, h.holds, h.final)) = some (.staged, 0, 0, none)

theorem Dev.doneReport_eq {d : Dev} {r : RingId} {b : Binding} {done : Staged} {rest : List Staged}
    (bound : (d.ring r).binding = some b) (staged : (d.ring r).staging = done :: rest) :
    d.doneReport r = (((((((d.setRing r { d.ring r with
      staging := rest, consumer := ((d.ring r).consumer + 1) % b.size, head := none }).publish (fieldRing r)
        (((d.ring r).consumer + 1) % b.size) .plain).newHead r).judgeFetch r).judgeStopping r).judgeFaulted r).judgeFlush r) := by
  simp only [Dev.doneReport, bound, staged, advance]

theorem Dev.port_publish_congr {d e : Dev} (port : e.port = d.port) (f : FieldId) (n : Nat) (p : Purpose) :
    (e.publish f n p).port = (d.publish f n p).port := by
  have halted : e.halted = d.halted := by rw [Dev.halted, port, Dev.halted]
  have queue : e.fieldQueue f = d.fieldQueue f := by rw [Dev.fieldQueue, port, Dev.fieldQueue]
  rw [Dev.publish, Dev.publish, halted, queue]
  split
  · exact port
  · rw [Dev.setField, port]
    rfl

/-- The rings and the host port after a done report with no RING_FLUSH in progress. -/
theorem Dev.doneReport_of_not_flushing {d : Dev} {r : RingId} {b : Binding} {done : Staged} {rest : List Staged}
    (bound : (d.ring r).binding = some b) (staged : (d.ring r).staging = done :: rest) (free : d.flushNoted r = none) :
    (d.ring r).Popped ((d.doneReport r).ring r) b.size rest ∧
    (∀ k, k ≠ r → (d.doneReport r).ring k = d.ring k) ∧
    (d.doneReport r).port = (d.publish (fieldRing r) (((d.ring r).consumer + 1) % b.size) .plain).port := by
  let x : TransRing := { d.ring r with staging := rest, consumer := ((d.ring r).consumer + 1) % b.size, head := none }
  let published := (d.setRing r x).publish (fieldRing r) x.consumer .plain
  obtain ⟨-, -, ⟨rings, -⟩, engine, -⟩ := (d.setRing r x).publish_keeps (fieldRing r) x.consumer .plain
  have own : published.ring r = x := (Dev.ring_congr rings r).trans (Dev.ring_setRing_self ..)
  obtain ⟨head, headed, headless, fresh⟩ := published.rings_newHead_cases r
  have headed : (published.newHead r).rings = (d.setRing r { x with head := head }).rings := by
    rw [headed, own, Dev.rings_setRing, show published.rings = (d.setRing r x).rings from rings, ← Dev.rings_setRing,
      Dev.setRing_setRing]
  have judged := Dev.rings_judgeStopping_judgeFetch headed (b := b) bound
  let judgedDev := ((published.newHead r).judgeFetch r).judgeStopping r
  let y := ({ x with head := head } : TransRing).fetching (published.newHead r).now (published.newHead r).port.part
  obtain ⟨state, faulted⟩ := judgedDev.rings_judgeFaulted r
  have ownJudged : judgedDev.ring r = y.stopped := (Dev.ring_congr judged r).trans (Dev.ring_setRing_self ..)
  have faulted : (judgedDev.judgeFaulted r).rings = (d.setRing r { y.stopped with state := state }).rings := by
    rw [faulted, ownJudged, Dev.rings_setRing, show judgedDev.rings = _ from judged, ← Dev.rings_setRing, Dev.setRing_setRing]
  have noted : (judgedDev.judgeFaulted r).flushNoted r = none := by
    rw [Dev.flushNoted_judgeFaulted, Dev.flushNoted_judgeStopping]
    obtain ⟨-, -, ⟨fetched, -⟩, -⟩ := (published.newHead r).judgeFetch_keeps r
    obtain ⟨-, -, ⟨newHead, -⟩, -⟩ := published.newHead_keeps r
    refine (Dev.flushNoted_congr ?_).trans free
    rw [Dev.findParked, fetched, newHead, engine]
    rfl
  have report : d.doneReport r = judgedDev.judgeFaulted r := (Dev.doneReport_eq bound staged).trans (Dev.judgeFlush_of_none noted)
  have popped : (d.doneReport r).ring r = { y.stopped with state := state } := by
    rw [report, Dev.ring_congr faulted, Dev.ring_setRing_self]
  obtain ⟨staging, -, fetch, post, consumer, binding, base⟩ := y.stopped_keeps
  refine ⟨?_, fun k other => ?_, ?_⟩
  · rw [popped]
    rw [own] at headless fresh
    refine ⟨staging, consumer, fetch, post, binding, base, fun empty => ?_, fun left => ?_⟩
    · have noHead : y.head = none := headless empty
      have gone : y.stopped.head.map (fun _ => ()) = none := by
        rw [TransRing.map_head_stopped (f := fun _ => ()) (fun _ _ => rfl), noHead]
        rfl
      exact Option.map_eq_none_iff.1 gone
    · exact (TransRing.map_head_stopped (fun _ _ => rfl) y).trans (fresh left)
  · rw [report, Dev.ring_congr faulted, Dev.ring_setRing_ne _ _ other]
  · obtain ⟨-, -, port, -⟩ := judgedDev.judgeFaulted_keeps r
    obtain ⟨-, -, port', -⟩ := ((published.newHead r).judgeFetch r).judgeStopping_keeps r
    obtain ⟨-, -, -, port'', -⟩ := (published.newHead r).judgeFetch_keeps r
    obtain ⟨-, -, -, port'''⟩ := published.newHead_keeps r
    rw [report, port]
    exact port'.trans (port''.trans (port'''.trans (Dev.port_publish_congr (d := d) (e := d.setRing r x) rfl ..)))

/-! ## The statement -/

theorem dropPosted_of_first {before behind : List Parked} {k : Parked} (posting : k.waiting = false)
    (first : ∀ j ∈ before, j.waiting = true ∨ j.record ≠ k.record) :
    dropPosted k.record (before ++ k :: behind) = before ++ behind := by
  induction before with
  | nil => exact if_pos (by simp [posting])
  | cons j before ih =>
    have other : ¬ (!j.waiting && j.record == k.record) = true := by
      obtain waits | differs := first j List.mem_cons_self
      · simp [waits]
      · simp [differs]
    rw [List.cons_append, dropPosted, if_neg other, ih fun i mem => first i (List.mem_cons_of_mem _ mem), List.cons_append]

theorem Dev.fieldQueue_publish {d : Dev} (running : d.port.part ≠ .halted) (f : FieldId) (n : Nat) (p : Purpose) :
    (d.publish f n p).fieldQueue f = (d.fieldQueue f).request { value := n, purpose := p } := by
  rw [Dev.publish, if_neg (mt d.halted_iff.1 running), Dev.setField, Dev.fieldQueue]
  simp

/-- Settles O18: each purpose by the equation of what it reports to. -/
theorem publicationReported : Obligations.PublicationReported := by
  intro d
  refine ⟨fun ring source running publishing => Dev.published_of_publishing running publishing,
    fun ring halted => if_pos (d.halted_iff.2 halted), ?done, rfl, fun k before behind parked posting first => ?_, rfl, rfl, rfl,
    fun root start => ?_, fun root start => ?_, fun record inHand => completeInHand_eq inHand ..,
    fun record dropped inHand => completeInHand_eq inHand .., fun r skipped k before behind parked waits first => ?_⟩
  case done =>
    intro r b done rest bound staged free x u
    obtain ⟨popped, others, port⟩ := Dev.doneReport_of_not_flushing bound staged free
    obtain ⟨⟨-, alert, -⟩, ⟨channels, stations⟩, -⟩ := d.doneReport_keeps r
    refine ⟨popped.staging, popped.consumer, popped.fetch, popped.post, popped.binding.trans bound, popped.base, fun running => ?_,
      popped.headless, popped.fresh, others, channels, stations, alert⟩
    have queues : u.fieldQueue (fieldRing r) = (d.publish (fieldRing r) ((x.consumer + 1) % b.size) .plain).fieldQueue (fieldRing r) :=
      congrArg (fun p : HostPort => p.fields[fieldRing r]) port
    exact queues.trans (Dev.fieldQueue_publish running ..)
  · rw [Dev.entryDone, parked, dropPosted_of_first posting first]
    rfl
  · rw [Dev.statusReport, Dev.startWritten, start]
    rfl
  · rw [Dev.statusReport, Dev.startWritten, start]
    rfl
  · have found : d.findParked (Command.isRingFlush r) = some k := by
      rw [Dev.findParked, parked]
      exact findParked_of_first waits first
    refine (Dev.completeParked_of_found found ..).trans ?_
    rw [parked, markPosting_of_first waits first]

end Sys2Proof.Machine
end

section
/-! PROOFS. The failure of an entry write (R140): a FAULTED completion ring takes no entry, and what the ring unit does on the
discarded heads changes of it the waiters and the reservations alone. -/

namespace Sys2Proof.Machine

/-! ## A FAULTED completion ring (R141) -/

/-- Of a completion ring only the waiters and the reservations differ. -/
structure Cring.SameButHeads (x y : Cring) : Prop where
  rest : y = { x with waiters := y.waiters, slots := { x.slots with reservations := y.slots.reservations } }

theorem Cring.SameButHeads.fields {x y : Cring} (same : x.SameButHeads y) :
    y.state = x.state ∧ y.slots.posting = x.slots.posting ∧ y.lost = x.lost ∧ y.slots.producer = x.slots.producer ∧
      y.slots.consumer = x.slots.consumer ∧ y.dropped = x.dropped := by
  rw [same.rest]
  exact ⟨rfl, rfl, rfl, rfl, rfl, rfl⟩

/-- While the ring is FAULTED, only its waiters and its reservations change. -/
structure Dev.RestsFaulted (c : CrId) (d e : Dev) : Prop where
  heads : (d.cring c).state = .faulted → (d.cring c).SameButHeads (e.cring c)

section Faulted

variable {c : CrId} {d e f : Dev}

theorem Dev.RestsFaulted.of_same (same : e.cring c = d.cring c) : Dev.RestsFaulted c d e := ⟨fun _ => ⟨by rw [same]⟩⟩

theorem Dev.RestsFaulted.of_crings (same : e.crings = d.crings) : Dev.RestsFaulted c d e :=
  .of_same (by rw [Dev.cring, same, Dev.cring])

theorem Dev.RestsFaulted.refl (d : Dev) : Dev.RestsFaulted c d d := .of_same rfl

theorem Dev.RestsFaulted.trans (h : Dev.RestsFaulted c d e) (k : Dev.RestsFaulted c e f) : Dev.RestsFaulted c d f := by
  refine ⟨fun faulted => ?_⟩
  have kept := (h.heads faulted).rest
  have stays : (e.cring c).state = .faulted := by rw [kept, faulted]
  exact ⟨by rw [(k.heads stays).rest, kept]⟩

theorem Dev.RestsFaulted.foldl {α : Type} {g : Dev → α → Dev} (rests : ∀ (d : Dev) (x : α), Dev.RestsFaulted c d (g d x))
    (xs : List α) (d : Dev) : Dev.RestsFaulted c d (xs.foldl g d) := by
  induction xs generalizing d with
  | nil => exact .refl d
  | cons x xs ih => exact (rests d x).trans (ih _)

theorem Dev.restsFaulted_setCring {k : CrId} {x : Cring} (own : (d.cring k).state = .faulted → (d.cring k).SameButHeads x) :
    Dev.RestsFaulted c d (d.setCring k x) := by
  obtain rfl | other := eq_or_ne c k
  · refine ⟨fun faulted => ?_⟩
    rw [Dev.cring_setCring_self]
    exact own faulted
  · exact .of_same (Dev.cring_setCring_ne _ _ other)

theorem Dev.reportLost_restsFaulted (d : Dev) (k : CrId) : Dev.RestsFaulted c d (d.reportLost k) := by
  unfold Dev.reportLost
  dsimp only
  split
  case isTrue reports =>
    obtain ⟨active, -⟩ := reports
    rw [Dev.postCring, Dev.modCring, Dev.setCring_setCring]
    exact Dev.restsFaulted_setCring fun faulted => nomatch active.symm.trans faulted
  case isFalse => exact .refl d

theorem Dev.grantWaiters_restsFaulted (d : Dev) (k : CrId) (n : Nat) : Dev.RestsFaulted c d (d.grantWaiters k n) := by
  let x := d.cring k
  refine .trans (e := d.setCring k { x with
    waiters := x.waiters.drop n
    slots := { x.slots with reservations := x.slots.reservations + (x.waiters.take n).length } }) ?waiters (.of_crings rfl)
  exact Dev.restsFaulted_setCring fun _ => ⟨rfl⟩

theorem Dev.giveRoom_restsFaulted (d : Dev) (k : CrId) : Dev.RestsFaulted c d (d.giveRoom k) :=
  (d.reportLost_restsFaulted k).trans (Dev.grantWaiters_restsFaulted ..)

theorem Dev.requestReservation_restsFaulted (d : Dev) (k : CrId) (r : RingId) : Dev.RestsFaulted c d (d.requestReservation k r) := by
  have waits : Dev.RestsFaulted c d (d.setCring k { d.cring k with waiters := (d.cring k).waiters ++ [r] }) :=
    Dev.restsFaulted_setCring fun _ => ⟨rfl⟩
  unfold Dev.requestReservation
  extract_lets x atOnce waiting
  split
  · exact waits.trans (Dev.grantWaiters_restsFaulted ..)
  · exact waits

theorem Dev.cancelReservation_restsFaulted (d : Dev) (k : CrId) (r : RingId) : Dev.RestsFaulted c d (d.cancelReservation k r) := by
  unfold Dev.cancelReservation
  dsimp only
  split
  · exact Dev.restsFaulted_setCring fun _ => ⟨rfl⟩
  · refine .trans ?ended (Dev.giveRoom_restsFaulted ..)
    exact Dev.restsFaulted_setCring fun _ => ⟨rfl⟩

theorem Dev.askReservation_restsFaulted (d : Dev) (r : RingId) : Dev.RestsFaulted c d (d.askReservation r) := by
  unfold Dev.askReservation
  split
  · split
    · refine .trans ?requested (Dev.requestReservation_restsFaulted ..)
      exact .of_crings rfl
    · exact .refl d
  · exact .refl d

theorem Dev.newHead_restsFaulted (d : Dev) (r : RingId) : Dev.RestsFaulted c d (d.newHead r) := by
  unfold Dev.newHead
  split
  · exact .of_crings rfl
  · dsimp only
    split
    · refine .trans ?fresh (Dev.askReservation_restsFaulted ..)
      exact .of_crings rfl
    · exact .of_crings rfl

theorem Dev.giveUp_restsFaulted (d : Dev) (r : RingId) : Dev.RestsFaulted c d (d.giveUp r) := by
  unfold Dev.giveUp
  split
  · split
    · exact .refl d
    · refine .trans ?released (Dev.cancelReservation_restsFaulted ..)
      exact .of_crings rfl
  · exact .refl d

theorem Dev.completeParked_restsFaulted (d : Dev) (p : Command → Bool) (status : ControlStatus) (n : Nat) :
    Dev.RestsFaulted c d (d.completeParked p status n) :=
  have ⟨_, _, ⟨_, crings, _⟩, _⟩ := d.completeParked_keeps p status n
  .of_crings crings

theorem Dev.judgeStopping_restsFaulted (d : Dev) (r : RingId) : Dev.RestsFaulted c d (d.judgeStopping r) := by
  unfold Dev.judgeStopping
  dsimp only
  split
  · refine .trans (.trans ?stopped (Dev.giveUp_restsFaulted ..)) (Dev.completeParked_restsFaulted ..)
    exact .of_crings rfl
  · exact .refl d

/-- A done report leaves the entries of a FAULTED ring (R140). -/
theorem Dev.doneReport_restsFaulted (d : Dev) (r : RingId) : Dev.RestsFaulted c d (d.doneReport r) := by
  unfold Dev.doneReport
  dsimp only
  split
  · rename_i b _ rest _ _
    let x : TransRing := { d.ring r with staging := rest, consumer := advance b.size (d.ring r).consumer 1, head := none }
    obtain ⟨-, -, ⟨-, published, -⟩, -⟩ := (d.setRing r x).publish_keeps (fieldRing r) (advance b.size (d.ring r).consumer 1) .plain
    refine .trans (e := (d.setRing r x).publish (fieldRing r) (advance b.size (d.ring r).consumer 1) .plain)
      (.of_crings published) ?_
    generalize (d.setRing r x).publish (fieldRing r) (advance b.size (d.ring r).consumer 1) .plain = e
    obtain ⟨-, -, -, -, fetched, -⟩ := (e.newHead r).judgeFetch_keeps r
    obtain ⟨-, -, -, faulted, -⟩ := (((e.newHead r).judgeFetch r).judgeStopping r).judgeFaulted_keeps r
    obtain ⟨-, -, -, flushed, -⟩ := ((((e.newHead r).judgeFetch r).judgeStopping r).judgeFaulted r).judgeFlush_keeps r
    exact (e.newHead_restsFaulted r).trans <| (Dev.RestsFaulted.of_crings fetched).trans <|
      (Dev.judgeStopping_restsFaulted _ r).trans <| (Dev.RestsFaulted.of_crings faulted).trans (.of_crings flushed)
  · exact .refl d

theorem Dev.reportDiscarded_restsFaulted (d : Dev) (posting : List Posting) : Dev.RestsFaulted c d (d.reportDiscarded posting) := by
  refine Dev.RestsFaulted.foldl (fun d p => ?_) posting d
  split
  · exact d.doneReport_restsFaulted _
  · exact .refl d

end Faulted

/-- The done reports of discarded entries leave the channels and the stations (R140). -/
theorem Dev.reportDiscarded_line (d : Dev) (posting : List Posting) : SameLine d (d.reportDiscarded posting) := by
  induction posting generalizing d with
  | nil => simp [Dev.reportDiscarded, SameLine]
  | cons p posting ih =>
    obtain ⟨channels, stations⟩ := ih (match p.source with
      | .transaction r => d.doneReport r
      | _ => d)
    have first : SameLine d (match p.source with
        | .transaction r => d.doneReport r
        | _ => d) := by
      split
      · exact (d.doneReport_keeps _).2.1
      · simp [SameLine]
    obtain ⟨channels', stations'⟩ := first
    exact ⟨channels.trans channels', stations.trans stations'⟩

/-! ## The events that leave (R144) -/

/-- The answers of parked commands take no room of the CCR: they hold reservations (R130). -/
theorem Slots.roomLeft_answers {x y : Slots} {own : List Posting} (answers : ∀ p ∈ own, ∃ record, p.source = .parked record)
    {stage : Stage} (posted : y = { x with posting := x.posting ++ own, stage := stage }) : y.roomLeft = x.roomLeft := by
  have unclaimed : own.filter (fun p => p.source ∈ [.event, .alert, .alertsLost]) = [] :=
    List.filter_eq_nil_iff.2 fun p mem => by
      obtain ⟨record, source⟩ := answers p mem
      simp [source]
  subst posted
  simp only [Slots.roomLeft, List.filter_append, unclaimed, List.append_nil]

/-- Entering an event after parked commands have been answered: the events that leave are those that would have left before. -/
theorem Dev.Answers.enterEvent {d e : Dev} (answers : d.Answers e) (channels : e.channels = d.channels) (kind : EventKind)
    (object : Nat) :
    let events := d.engine.events
    let pending := ∃ x ∈ events, x.kind = kind ∧ x.object = object
    let all := events ++ [{ kind := kind, object := object, repeats := 0 }]
    let out := d.eventsOut all
    ∃ own : List Posting, (∀ p ∈ own, ∃ record, p.source = .parked record) ∧
      (pending → (e.enterEvent kind object).engine.events = recurred kind object events ∧
        (e.enterEvent kind object).ccr.slots.posting = d.ccr.slots.posting ++ own) ∧
      (¬ pending → (e.enterEvent kind object).engine.events = all.drop out.length ∧
        (e.enterEvent kind object).ccr.slots.posting = d.ccr.slots.posting ++ own ++ out.map d.eventPosting) := by
  intro events pending all out
  obtain ⟨own, ofParked, ccr⟩ := answers.posted
  have same : e.engine.events = events := answers.events
  have posting : e.ccr.slots.posting = d.ccr.slots.posting ++ own := (congrArg (fun c : Ccr => c.slots.posting) ccr :)
  refine ⟨own, ofParked, fun stands => ?_, fun new => ?_⟩
  · rw [Dev.enterEvent_of_pending (by rwa [same]), same]
    exact ⟨rfl, posting⟩
  · have active : e.ccr.active = d.ccr.active := (congrArg Ccr.active ccr :)
    have room : e.ccr.slots.roomLeft = d.ccr.slots.roomLeft := Slots.roomLeft_answers ofParked (congrArg Ccr.slots ccr :)
    have leaves : e.eventsOut all = out := by
      rw [Dev.eventsOut, answers.part, active, room]
      rfl
    have entries : e.eventPosting = d.eventPosting := by
      funext x
      simp only [Dev.eventPosting, Dev.chan_congr channels]
    rw [Dev.enterEvent_of_new (by rwa [same]), same, Dev.withEvents_eq, leaves, Dev.withPosted, posting, entries]
    exact ⟨rfl, rfl⟩

/-! ## ENTRY_WRITE_ERROR -/

theorem becomes_entryWriteError (t : Moment) (c : CrId) (s : State) :
    Becomes (.entryWriteError t c) s ((s.dev.tick t).entryError c) := rfl

theorem Dev.entryError_of_writing {d : Dev} {c : CrId} (up : d.port.part ≠ .resetting)
    (writing : (d.cring c).slots.stage = .writing) :
    d.entryError c = (((d.setCring c (d.cring c).fail).reportDiscarded (d.cring c).slots.posting).enterEvent
      .cringFault c.val).giveRoom c := by
  rw [Dev.entryError, if_neg (mt d.resetting_iff.1 up)]
  exact if_neg (not_not_intro writing)

/-- Settles O19: the ring fails, its discarded heads are reported done, the event is entered, and the room is given out. -/
theorem entryWriteErrorFaults : Obligations.EntryWriteErrorFaults := by
  intro t c s x up writing
  let d := s.dev.tick t
  let failed := d.setCring c x.fail
  let discarded := failed.reportDiscarded x.slots.posting
  let entered := discarded.enterEvent .cringFault c.val
  have calm : failed.Calm discarded := failed.reportDiscarded_calm _
  obtain ⟨channels, stations⟩ := failed.reportDiscarded_line x.slots.posting
  obtain ⟨⟨-, alert, -⟩, ⟨channels', stations'⟩, ⟨-, crings, -⟩, -⟩ := discarded.enterEvent_keeps .cringFault c.val
  obtain ⟨⟨-, alert', -⟩, ⟨channels'', stations''⟩, ⟨engine, ccr⟩, -⟩ := entered.giveRoom_keeps c
  obtain ⟨-, alert'', -⟩ := calm.same
  have kept : x.fail.SameButHeads ((entered.giveRoom c).cring c) := by
    have rests : Dev.RestsFaulted c failed (entered.giveRoom c) :=
      (failed.reportDiscarded_restsFaulted _).trans <| (Dev.RestsFaulted.of_crings crings).trans (entered.giveRoom_restsFaulted c)
    have own : failed.cring c = x.fail := Dev.cring_setCring_self ..
    have heads := rests.heads
    rw [own] at heads
    exact heads rfl
  have events := Dev.Answers.enterEvent (d := d) (e := discarded) (.trans (b := failed) (.of_same rfl rfl rfl) calm.answers)
    channels .cringFault c.val
  obtain ⟨state, posting, lost, producer, consumer, dropped⟩ := kept.fields
  have sameAlert : (entered.giveRoom c).alert = s.dev.alert := by rw [alert', alert, alert'']; rfl
  have sameChannels : (entered.giveRoom c).channels = s.dev.channels := by rw [channels'', channels', channels]; rfl
  have sameStations : (entered.giveRoom c).stations = s.dev.stations := by rw [stations'', stations', stations]; rfl
  have runs : Becomes (.entryWriteError t c) s (entered.giveRoom c) :=
    (becomes_entryWriteError t c s).of_eq (Dev.entryError_of_writing (d := d) up writing)
  have same : (entered.giveRoom c).engine = entered.engine := engine
  have same' : (entered.giveRoom c).ccr = entered.ccr := ccr
  generalize entered.giveRoom c = u at *
  refine ⟨_, runs, rfl, rfl, state, posting, lost, producer, consumer, dropped, sameAlert, sameChannels, sameStations, ?_⟩
  intro evs pending all out
  obtain ⟨own, ofParked, repeats, new⟩ := events
  exact ⟨own, ofParked, fun stands => same ▸ same' ▸ repeats stands, fun absent => same ▸ same' ▸ new absent⟩

end Sys2Proof.Machine
end

section
/-! PROOFS. The receiver's reports: activity starts, quiet, and the reports heard while LISTENING (R2, R33, R35, R112 to R115). -/

namespace Sys2Proof.Machine

/-! ## Activity starts (R35, R41, R114) -/

theorem micros_eq (n : Nat) : micros n = 8 * n := Nat.mul_comm ..

/-- A channel whose line is noted as active, with the report of the stretch to come (R2). -/
def Channel.noted (c : Channel) (now : Moment) : Channel := { c with lineActive := true, activeSince := now, unreported := true }

section Starts

variable {c : Channel} {a : Attempt} (now : Moment)

theorem Channel.activityStart_of_window (awaiting : c.state = .awaiting) (attempt : c.attempt = some a)
    (transaction : a.kind ≠ .broadcast) (inside : now ≤ a.windowEnds) :
    c.activityStart now = { c.noted now with state := .receiving, attempt := some { a with started := now } } := by
  simp [Channel.activityStart, awaiting, attempt, transaction, inside, Channel.receive, Channel.noted]

theorem Channel.activityStart_chatters (attempt : c.attempt = some a)
    (chatters : (c.state = .awaiting ∧ a.kind = .broadcast) ∨ (c.state = .receiving ∧ a.provisional.isSome = true)) :
    c.activityStart now = { c.noted now with
      state := .chatter, since := now, listening := none, attempt := some { a with provisional := some .garbled } } := by
  obtain ⟨awaiting, broadcast⟩ | ⟨receiving, judged⟩ := chatters
  · simp [Channel.activityStart, awaiting, attempt, broadcast, Channel.chatter, Channel.toChatter, Channel.garble, Channel.noted]
  · simp [Channel.activityStart, receiving, attempt, judged, Channel.chatter, Channel.toChatter, Channel.garble, Channel.noted]

theorem Channel.activityStart_of_listening {l : Listening} (listening : c.state = .listening) (hears : c.listening = some l) :
    c.activityStart now =
      if l.stretch = none ∨ (c.lineActive = false ∧ l.ended = false) then (c.noted now).hearStretch l now else c.noted now := by
  simp [Channel.activityStart, listening, hears, Channel.noted]

theorem Channel.activityStart_of_other (other : c.state ∈ [.off, .idle, .quietWait, .sending, .chatter, .stuck]) :
    c.activityStart now = c.noted now := by
  unfold Channel.activityStart
  dsimp only
  split <;> simp_all [Channel.noted]

end Starts

theorem becomes_lineActivityStart (t : Moment) (ch : ChanId) (s : State) :
    Becomes (.lineActivityStart t ch) s ((s.dev.tick t).setChan ch ((s.dev.chan ch).activityStart (s.dev.tick t).now)) := rfl

/-- Settles O23: the activity start in each channel state. -/
theorem activityStartByState : Obligations.ActivityStartByState := by
  intro t ch s d c q i
  have starts := becomes_lineActivityStart t ch s
  have becomes {e : Channel} (eq : c.activityStart d.now = e) : Becomes i s (d.setChan ch e) := starts.of_eq (congrArg (d.setChan ch) eq)
  refine ⟨fun a w awaiting attempt transaction window inside => ?_, fun a attempt chatters => ?_,
    fun l listening hears => ⟨fun starts => ?_, fun heard goes => ?_⟩, fun other => ?_⟩
  · have ends : a.windowEnds = a.opened + 8 * w := by rw [Attempt.windowEnds, window, micros_eq, Option.getD_some]
    exact becomes (Channel.activityStart_of_window d.now awaiting attempt (by simp [transaction]) (by rwa [ends]))
  · exact becomes (Channel.activityStart_chatters d.now attempt chatters)
  · exact becomes ((Channel.activityStart_of_listening d.now listening hears).trans (if_pos starts))
  · refine becomes ((Channel.activityStart_of_listening d.now listening hears).trans (if_neg ?_))
    rintro (none | ⟨quiet, lasts⟩)
    · exact heard none
    · obtain active | ended := goes
      · exact nomatch active.symm.trans quiet
      · exact nomatch ended.symm.trans lasts
  · exact becomes (Channel.activityStart_of_other d.now other)

/-! ## The end of a stretch (R2, R48, R114) -/

/-- The end of an activity writes two counters, and nothing else of the channel but the activity itself (R66). -/
theorem Channel.account_eq (c : Channel) (m : Moment) :
    c.account m = { c with activity := none, counters := (c.account m).counters } := by
  unfold Channel.account
  split
  case h_1 none => rw [← none]
  case h_2 => split <;> rfl

theorem Channel.stretchDone_eq {c : Channel} {l : Listening} (hears : c.listening = some l) :
    c.stretchDone = (l.stretch.isSome && !c.lineActive && !c.unreported) := by
  simp [Channel.stretchDone, hears]

theorem Dev.stretchOver_of_not_done {d : Dev} {ch : ChanId} (lasts : (d.chan ch).stretchDone = false) : d.stretchOver ch = d := by
  obtain ⟨same, -⟩ | ⟨l, -, -, done, -⟩ := d.stretchOver_cases ch
  · exact same
  · exact nomatch lasts.symm.trans done

theorem Dev.stretchOver_of_done {d : Dev} {ch : ChanId} {l : Listening} (listening : (d.chan ch).state = .listening)
    (hears : (d.chan ch).listening = some l) (done : (d.chan ch).stretchDone = true) :
    d.stretchOver ch =
      let e := d.setChan ch { d.chan ch with listening := some { l with stretch := none } }
      if d.disableParked ch = true ∨ l.ended = true ∨ d.port.part = .halted then e.activityOver ch else e := by
  rw [Dev.stretchOver, listening, hears]
  dsimp only
  rw [if_pos done]
  simp only [Dev.halted_iff]
  rfl

theorem Dev.activityOver_of_free {d : Dev} {ch : ChanId} (free : d.disableParked ch = false) : d.activityOver ch = d.enterIdle ch :=
  if_neg (by simp [free])

/-! ## LINE_QUIET (R33) -/

/-- A channel whose line is quiet since `now`. -/
def Channel.quieted (c : Channel) (now : Moment) : Channel := { c with lineActive := false, lastQuiet := now }

section Quiet

variable {d : Dev} {ch : ChanId} {a : Attempt}

theorem Dev.lineQuiet_of_other (awaiting : (d.chan ch).state ≠ .awaiting) (receiving : (d.chan ch).state ≠ .receiving)
    (listening : (d.chan ch).state ≠ .listening) : d.lineQuiet ch = d.setChan ch ((d.chan ch).quieted d.now) := by
  unfold Dev.lineQuiet
  dsimp only
  rw [Dev.modChan, Dev.chan_setChan_self]
  split
  · contradiction
  · contradiction
  · contradiction
  · rfl

theorem Dev.lineQuiet_of_awaiting (awaiting : (d.chan ch).state = .awaiting) (attempt : (d.chan ch).attempt = some a) :
    d.lineQuiet ch = d.setChan ch (((d.chan ch).quieted d.now).quietAwaiting d.now a) := by
  simp [Dev.lineQuiet, Dev.modChan, awaiting, attempt, Channel.quieted]

theorem Dev.lineQuiet_of_receiving (receiving : (d.chan ch).state = .receiving) (attempt : (d.chan ch).attempt = some a) :
    d.lineQuiet ch = d.setChan ch (((d.chan ch).quieted d.now).quietAfterResponse d.now a) := by
  simp [Dev.lineQuiet, Dev.modChan, receiving, attempt, Channel.quieted]

theorem Dev.lineQuiet_of_listening {l : Listening} (listening : (d.chan ch).state = .listening)
    (hears : (d.chan ch).listening = some l) :
    d.lineQuiet ch = if l.stretch.isSome then (d.setChan ch (((d.chan ch).quieted d.now).account d.now)).stretchOver ch
      else d.setChan ch ((d.chan ch).quieted d.now) := by
  simp [Dev.lineQuiet, Dev.modChan, listening, hears, Channel.quieted]

end Quiet

theorem becomes_lineQuiet (t : Moment) (ch : ChanId) (s : State) : Becomes (.lineQuiet t ch) s ((s.dev.tick t).lineQuiet ch) := rfl

/-- Settles O24: the quiet in each channel state; in LISTENING the stretch is accounted and judged. -/
theorem quietByState : Obligations.QuietByState := by
  intro t ch s d c q i
  have quiet := becomes_lineQuiet t ch s
  refine ⟨fun awaiting receiving listening => quiet.of_eq (Dev.lineQuiet_of_other (d := d) awaiting receiving listening),
    fun a awaiting attempt => ?awaiting, fun a receiving attempt => ?receiving, fun l listening hears => ?listening⟩
  case awaiting =>
    have becomes := quiet.of_eq (Dev.lineQuiet_of_awaiting (d := d) awaiting attempt)
    refine ⟨fun early => becomes.of_eq ?_, fun broadcast late => becomes.of_eq ?_⟩
    · refine congrArg (d.setChan ch) (if_neg fun ⟨broadcast, late⟩ => ?_)
      obtain other | early := early
      · exact other broadcast
      · exact not_lt.2 early late
    · refine congrArg (d.setChan ch) ((if_pos ⟨broadcast, late⟩).trans ?_)
      simp [Channel.chatter, Channel.garble, Channel.toChatter, Channel.quieted, attempt, d, q, c]
  case receiving =>
    have becomes := quiet.of_eq (Dev.lineQuiet_of_receiving (d := d) receiving attempt)
    refine ⟨fun open_ => becomes.of_eq (congrArg (d.setChan ch) ?_), fun v judged lasts => becomes.of_eq (congrArg (d.setChan ch) ?_),
      fun v judged ended => becomes.of_eq (congrArg (d.setChan ch) ?_)⟩
    · rw [Channel.quietAfterResponse, open_]
      rfl
    · rw [Channel.quietAfterResponse, judged, lasts]
      simp [Channel.endResponse, Channel.quieted, attempt, q, c, d]
    · rw [Channel.quietAfterResponse, judged, ended]
      exact if_neg (lt_irrefl _)
  case listening =>
    intro calm
    have becomes := quiet.of_eq (Dev.lineQuiet_of_listening (d := d) listening hears)
    let accounted := d.setChan ch (q.account d.now)
    have stretch (m : Moment) (heard : l.stretch = some m) : Becomes i s (accounted.stretchOver ch) :=
      becomes.of_eq (if_pos (by rw [heard]; rfl))
    have own : accounted.chan ch = q.account d.now := Dev.chan_setChan_self ..
    have listening' : (accounted.chan ch).state = .listening := by rw [own, q.account_eq]; exact listening
    have hears' : (accounted.chan ch).listening = some l := by rw [own, q.account_eq]; exact hears
    have done (m : Moment) (heard : l.stretch = some m) : (accounted.chan ch).stretchDone = !c.unreported := by
      rw [Channel.stretchDone_eq hears', heard, own, q.account_eq]
      rfl
    have ended (m : Moment) (heard : l.stretch = some m) (reported : c.unreported = false) :
        Becomes i s (if d.disableParked ch = true ∨ l.ended = true ∨ d.port.part = .halted then (d.setChan ch calm).activityOver ch
          else d.setChan ch calm) := by
      have judged := Dev.stretchOver_of_done listening' hears' (by rw [done m heard, reported]; rfl)
      rw [own, Dev.setChan_setChan] at judged
      exact (stretch m heard).of_eq judged
    refine ⟨fun none => becomes.of_eq (if_neg (by simp [none])), fun m heard coming => ?_, fun m heard reported lasts running free => ?_,
      fun m heard reported over_ free => ?_⟩
    · exact (stretch m heard).of_eq (Dev.stretchOver_of_not_done (by rw [done m heard, coming]; rfl))
    · refine (ended m heard reported).of_eq (if_neg ?_)
      rintro (parked | past | halted)
      · exact nomatch free.symm.trans parked
      · exact nomatch lasts.symm.trans past
      · exact running halted
    · refine (ended m heard reported).of_eq ((if_pos (.inr over_)).trans ?_)
      exact Dev.activityOver_of_free (d := d.setChan ch calm) free

end Sys2Proof.Machine
end

section
/-! PROOFS. The reports heard while LISTENING (R112 to R116) and a valid alert at the station table and the alert unit (R27, R116,
R123, R138). -/

namespace Sys2Proof.Machine

/-! ## What a calm operation leaves (R77, R88 to R93) -/

theorem Dev.Calm.disableParked {d e : Dev} (calm : d.Calm e) (ch : ChanId) : e.disableParked ch = d.disableParked ch := by
  rw [Dev.disableParked, Dev.hasParked, calm.stops _ fun c r disable => by rw [Command.eq_of_isDisable disable]; rfl]
  rfl

theorem Dev.Calm.part {d e : Dev} (calm : d.Calm e) : e.port.part = d.port.part := calm.answers.part

theorem Channel.Waits.state_eq {c e : Channel} (waits : c.Waits e) (busy : c.state ≠ .idle) : e.state = c.state :=
  waits.state.resolve_right fun ⟨idle, _⟩ => busy idle

/-- A valid alert, once it has changed its station's record, leaves the channels as a calm operation does. -/
theorem Dev.hearAlert_calm (d : Dev) (ch : ChanId) (w : WindowId) (a : AlertFrame) :
    (d.setStation ch a.station ((d.station ch a.station).alert a.code)).Calm (d.hearAlert ch w a) := by
  have updated := d.updateStation_calm ch a.station (StationRec.alert a.code)
  have posted (e : Dev) (c : CrId) (entry : Entry) : e.Calm (e.postAlert c entry) :=
    have ⟨same, line, control, _, rings, _⟩ := e.postAlert_keeps c entry
    .of_same same line rings control
  unfold Dev.hearAlert
  dsimp only
  split
  · exact updated
  · split
    · exact updated
    · split
      · exact updated
      · exact updated.trans (posted ..)

/-! ## Garbled reports (R112) -/

/-- The counters after a garbled report, unless its stretch has been counted. -/
def Counters.garbledOnce (k : Counters) (counted : Bool) : Counters := if counted then k else k.alertGarble

theorem Channel.countGarbled_eq (c : Channel) : c.countGarbled = { c with
    counters := c.counters.garbledOnce (c.listening.any Listening.counted)
    listening := c.listening.map fun l => { l with counted := true } } := by
  unfold Channel.countGarbled
  split
  case isTrue counted =>
    obtain ⟨l, hears, marked⟩ : ∃ l, c.listening = some l ∧ l.counted = true := by
      cases hears : c.listening with
      | none => simp [hears] at counted
      | some l => exact ⟨l, rfl, by simpa [hears] using counted⟩
    have stays : ({ l with counted := true } : Listening) = l := by rw [← marked]
    rw [counted, hears, Option.map_some, stays, ← hears]
    rfl
  case isFalse first =>
    rw [Bool.not_eq_true] at first
    rw [first]
    rfl

/-- The counters after the end of an activity at moment `m` (R66). -/
def Counters.ended (k : Counters) (activity : Option Activity) (m : Moment) : Counters :=
  match activity with
  | none => k
  | some a =>
    if m ≤ a.ownEnd then k
    else { k with
      overruns := satAdd Config.countCap k.overruns 1
      windowsLost := satAdd Config.countCap k.windowsLost (a.crossed.countP fun e => decide (e < m)) }

theorem Channel.account_eq_ended (c : Channel) (m : Moment) :
    c.account m = { c with activity := none, counters := c.counters.ended c.activity m } := by
  cases activity : c.activity with
  | none =>
    simp only [Channel.account, activity, Counters.ended]
    rw [← activity]
  | some a => by_cases inside : m ≤ a.ownEnd <;> simp [Channel.account, activity, Counters.ended, inside]

theorem Counters.garbledOnce_ended (k : Counters) (counted : Bool) (activity : Option Activity) (m : Moment) :
    (k.garbledOnce counted).ended activity m = (k.ended activity m).garbledOnce counted := by
  cases counted with
  | true => rfl
  | false =>
    cases activity with
    | none => rfl
    | some a => by_cases inside : m ≤ a.ownEnd <;> simp [Counters.garbledOnce, Counters.ended, Counters.alertGarble, inside]

/-- The account of a stretch and the count of its garbled report do not meet. -/
theorem Channel.quiet_report_comm (c : Channel) (now : Moment) :
    (c.report.countGarbled.quieted now).account now = ((c.quieted now).account now).report.countGarbled := by
  simp only [Channel.account_eq_ended, Channel.countGarbled_eq, Channel.quieted, Channel.report, Counters.garbledOnce_ended]

/-! ## Reports in LISTENING -/

theorem Channel.garbledReport_of_listening {c : Channel} (listening : c.state = .listening) (e : Option Moment) :
    c.report.garbledReport e = c.report.countGarbled := by
  simp [Channel.garbledReport, listening]

section Listening

variable {d : Dev} {ch : ChanId} {l : Listening} (listening : (d.chan ch).state = .listening)
  (hears : (d.chan ch).listening = some l)

include listening

theorem Dev.malformed_of_listening : d.malformed ch = (d.setChan ch (d.chan ch).report.countGarbled).stretchOver ch := by
  rw [Dev.malformed, Dev.modChan, Channel.garbledReport_of_listening listening]

theorem Dev.nonFrame_of_listening : d.nonFrame ch = (d.setChan ch (d.chan ch).report.countGarbled).stretchOver ch := by
  rw [Dev.nonFrame, Dev.modChan, Channel.garbledReport_of_listening listening]

include hears

theorem Dev.frame_of_listening_valid {f : RxFrame} {alert : AlertFrame} (formed : RxFrame.formed f = true)
    (valid : RxFrame.validAlert f = some alert) :
    d.frame ch f = ((d.setChan ch (d.chan ch).report).hearAlert ch l.window alert).stretchOver ch := by
  rw [Dev.frame, if_neg (not_not_intro formed), Dev.modChan]
  dsimp only
  rw [Dev.chan_setChan_self, Channel.report_state, listening, Channel.report_listening, hears, valid]

theorem Dev.frame_of_listening_garbled {f : RxFrame} (formed : RxFrame.formed f = true) (garbles : RxFrame.validAlert f = none) :
    d.frame ch f = (d.setChan ch (d.chan ch).report.countGarbled).stretchOver ch := by
  rw [Dev.frame, if_neg (not_not_intro formed), Dev.modChan]
  dsimp only
  rw [Dev.chan_setChan_self, Channel.report_state, listening, Channel.report_listening, hears, garbles]
  dsimp only
  rw [Dev.modChan, Dev.chan_setChan_self, Dev.setChan_setChan, Channel.garbledReport_of_listening listening]

end Listening

/-! ## Reports in the other states -/

theorem Channel.garbledReport_of_other {c : Channel}
    (other : c.state ∈ [.off, .idle, .quietWait, .sending, .awaiting, .chatter, .stuck]) (e : Option Moment) :
    c.report.garbledReport e = c.report := by
  unfold Channel.garbledReport
  split <;> simp_all

section Discarded

variable {d : Dev} {ch : ChanId} (other : (d.chan ch).state ∈ [.off, .idle, .quietWait, .sending, .awaiting, .chatter, .stuck])

include other

theorem Dev.stretchOver_report : (d.setChan ch (d.chan ch).report).stretchOver ch = d.setChan ch (d.chan ch).report := by
  refine Dev.stretchOver_of_state_ne ?_
  rw [Dev.chan_setChan_self, Channel.report_state]
  rintro listening
  simp [listening] at other

theorem Dev.malformed_of_other : d.malformed ch = d.setChan ch (d.chan ch).report := by
  rw [Dev.malformed, Dev.modChan, Channel.garbledReport_of_other other, Dev.stretchOver_report other]

theorem Dev.nonFrame_of_other : d.nonFrame ch = d.setChan ch (d.chan ch).report := by
  rw [Dev.nonFrame, Dev.modChan, Channel.garbledReport_of_other other, Dev.stretchOver_report other]

theorem Dev.frame_of_other (f : RxFrame) : d.frame ch f = d.setChan ch (d.chan ch).report := by
  unfold Dev.frame
  split
  · exact Dev.malformed_of_other other
  · dsimp only
    rw [Dev.modChan, Dev.chan_setChan_self, Channel.report_state]
    split
    · simp_all
    · simp_all
    · rfl

end Discarded

/-! ## AlertsHeard -/

theorem Dev.tick_setChan_tick (d : Dev) (t : Moment) (ch : ChanId) (c : Channel) :
    ((d.tick t).setChan ch c).tick t = (d.tick t).setChan ch c := by
  simp [Dev.tick, Dev.setChan]

/-- Settles O26: a report is noted and counted or heard, and then its stretch is judged; in the other states it is noted. -/
theorem alertsHeard : Obligations.AlertsHeard := by
  intro t ch s d c
  refine ⟨fun l listening hears => ?listening, fun other f => ?other⟩
  case other =>
    intro noted
    exact ⟨(becomes_malformedFrameReport t ch s).of_eq (Dev.malformed_of_other (d := d) other),
      (becomes_nonFrameActivity t ch s).of_eq (Dev.nonFrame_of_other (d := d) other),
      (becomes_frameReport t ch f s).of_eq (Dev.frame_of_other (d := d) other f)⟩
  case listening =>
    intro heard counted ended classifies
    have counts : d.setChan ch c.report.countGarbled = counted := by
      by_cases before : l.counted = true
      · simp [counted, heard, before, Channel.countGarbled, hears, c, d, Channel.report]
      · simp [counted, before, Channel.countGarbled, hears, c, d, Channel.report, Counters.alertGarble, satAdd, Config.countCap]
    have judges {i : Instr} {e : Dev} {l' : Listening} (runs : Becomes i s (e.stretchOver ch)) (state : (e.chan ch).state = .listening)
        (hears : (e.chan ch).listening = some l') (stretch : l'.stretch = l.stretch) (past : l'.ended = l.ended)
        (line : (e.chan ch).lineActive = c.lineActive) (reported : (e.chan ch).unreported = false)
        (parked : e.disableParked ch = s.dev.disableParked ch) (part : e.port.part = s.dev.port.part) : classifies i e := by
      have done : (e.chan ch).stretchDone = (l.stretch.isSome && !c.lineActive) := by
        rw [Channel.stretchDone_eq hears, stretch, line, reported, Bool.not_false, Bool.and_true]
      have ends : ended e = e.setChan ch { e.chan ch with listening := some { l' with stretch := none } } := by
        simp only [ended, hears, Option.map_some]
      refine ⟨fun lasts => runs.of_eq (Dev.stretchOver_of_not_done ?_), fun quiet some => ?_⟩
      · obtain active | none := lasts
        · rw [done, active, Bool.not_true, Bool.and_false]
        · rw [done, none]
          rfl
      have judged := Dev.stretchOver_of_done state hears
        (by rw [done, quiet, Option.isSome_iff_ne_none.2 some]; rfl)
      dsimp only at judged
      rw [← ends, parked, past, part] at judged
      refine ⟨fun waits => runs.of_eq (judged.trans (if_pos (.inl waits))), fun free stops => ?_, fun free lasts running => ?_⟩
      · refine runs.of_eq ((judged.trans (if_pos (.inr stops))).trans (Dev.activityOver_of_free ?_))
        exact parked.trans free
      · refine runs.of_eq (judged.trans (if_neg ?_))
        rintro (waits | past | halted)
        · exact nomatch free.symm.trans waits
        · exact nomatch lasts.symm.trans past
        · exact running halted
    have garbled {i : Instr} (runs : Becomes i s ((d.setChan ch c.report.countGarbled).stretchOver ch)) : classifies i counted := by
      rw [← counts]
      have own : (d.setChan ch c.report.countGarbled).chan ch = c.report.countGarbled := Dev.chan_setChan_self ..
      refine judges runs (l' := { l with counted := true }) ?_ ?_ rfl rfl ?_ ?_ rfl rfl
      · rw [own, Channel.countGarbled_eq]
        exact listening
      · rw [own, Channel.countGarbled_eq, Channel.report_listening, hears]
        rfl
      · rw [own, Channel.countGarbled_eq]
        rfl
      · rw [own, Channel.countGarbled_eq]
        rfl
    refine ⟨?_, ?_, fun f formed garbles => ?_, fun address priority length code spare payload st formed station => ?alert, ?both⟩
    · exact garbled ((becomes_malformedFrameReport t ch s).of_eq (Dev.malformed_of_listening (d := d) listening))
    · exact garbled ((becomes_nonFrameActivity t ch s).of_eq (Dev.nonFrame_of_listening (d := d) listening))
    · exact garbled ((becomes_frameReport t ch f s).of_eq (Dev.frame_of_listening_garbled (d := d) listening hears formed garbles))
    case alert =>
      let alert : AlertFrame := { station := st, priority := priority.toFin, code := code, payload := payload }
      have valid : RxFrame.validAlert (.alert address priority length code spare payload true) = some alert := by
        simp [RxFrame.validAlert, station, alert]
      let e := heard.hearAlert ch l.window alert
      have calm := heard.hearAlert_calm ch l.window alert
      have own : (heard.setStation ch st ((heard.station ch st).alert code)).chan ch = c.report := Dev.chan_setChan_self ..
      have waits : c.report.Waits (e.chan ch) := own ▸ calm.channels ch
      have runs : Becomes (.frameReport t ch (.alert address priority length code spare payload true)) s (e.stretchOver ch) :=
        (becomes_frameReport t ch _ s).of_eq (Dev.frame_of_listening_valid (d := d) listening hears formed valid)
      refine judges runs (l' := l) ?_ ?_ rfl rfl ?_ ?_ (calm.disableParked ch) calm.part
      · exact (waits.state_eq (by simp [listening])).trans listening
      · rw [waits.rest]
        exact hears
      · rw [waits.rest]
        rfl
      · rw [waits.rest]
        rfl
    case both =>
      intro m heardSince coming active
      have reports := (becomes_nonFrameActivity t ch s).of_eq (Dev.nonFrame_of_listening (d := d) listening)
      let quiet := (c.quieted d.now).account d.now
      let both := (d.setChan ch quiet.report.countGarbled).stretchOver ch
      have quietKeeps : quiet.state = .listening ∧ quiet.listening = some l ∧ quiet.unreported = true := by
        rw [show quiet = _ from Channel.account_eq_ended ..]
        exact ⟨listening, hears, coming⟩
      obtain ⟨quietListening, quietHears, quietComing⟩ := quietKeeps
      have reportKeeps : c.report.countGarbled.state = .listening ∧
          c.report.countGarbled.listening = some { l with counted := true } ∧ c.report.countGarbled.lineActive = true := by
        rw [Channel.countGarbled_eq]
        refine ⟨listening, ?_, active⟩
        rw [Channel.report_listening, hears]
        rfl
      obtain ⟨reportListening, reportHears, reportActive⟩ := reportKeeps
      have own (x : Channel) : (d.setChan ch x).chan ch = x := Dev.chan_setChan_self ..
      have first : Becomes (.lineQuiet t ch) s (d.setChan ch quiet) := by
        refine (becomes_lineQuiet t ch s).of_eq ((Dev.lineQuiet_of_listening (d := d) listening hears).trans ?_)
        rw [heardSince]
        refine (if_pos rfl).trans (Dev.stretchOver_of_not_done ?_)
        rw [own]
        refine (Channel.stretchDone_eq quietHears).trans ?_
        rw [quietComing, Bool.not_true, Bool.and_false]
      have second : Becomes (.nonFrameActivity t ch) s (d.setChan ch c.report.countGarbled) := by
        refine reports.of_eq (Dev.stretchOver_of_not_done ?_)
        rw [Dev.chan_setChan_self]
        refine (Channel.stretchDone_eq reportHears).trans ?_
        rw [show (Channel.countGarbled _).lineActive = true from reportActive, Bool.not_true, Bool.and_false, Bool.false_and]
      refine ⟨_, _, { s with dev := both }, first, second, ?_, ?_⟩
      · refine (becomes_nonFrameActivity t ch { s with dev := d.setChan ch quiet }).of_eq ?_
        rw [Dev.tick_setChan_tick, Dev.nonFrame_of_listening (by rw [own]; exact quietListening), own, Dev.setChan_setChan]
      · refine (becomes_lineQuiet t ch { s with dev := d.setChan ch c.report.countGarbled }).of_eq ?_
        have hears' : ((d.setChan ch c.report.countGarbled).chan ch).listening = some { l with counted := true } := by
          rw [own]
          exact reportHears
        rw [Dev.tick_setChan_tick, Dev.lineQuiet_of_listening (by rw [own]; exact reportListening) hears', own, Dev.setChan_setChan,
          if_pos (by rw [heardSince]; rfl)]
        exact congrArg (fun x => (d.setChan ch x).stretchOver ch) (c.quiet_report_comm d.now)

/-! ## A change of a record that causes nothing further (R20, R90) -/

@[simp] theorem reported_self (x : StationRec) : reported x x = false := by
  cases hold : x.hold <;> cases presence : x.presence <;>
    simp [reported, freedBy, justQuarantined, hold, presence]

theorem Dev.arbitrate_of_busy {d : Dev} {ch : ChanId} (busy : (d.chan ch).state ≠ .idle) : d.arbitrate ch = d := by
  unfold Dev.arbitrate
  split
  case h_1 idle _ => exact absurd idle busy
  case h_2 => rfl

/-- A changed record, not QUARANTINED, of a station whose channel is not IDLE changes nothing else. -/
theorem Dev.updateStation_of_busy {d : Dev} {ch : ChanId} {st : StationId} {f : StationRec → StationRec}
    (free : (f (d.station ch st)).presence ≠ .quarantined) (busy : (d.chan ch).state ≠ .idle) :
    d.updateStation ch st f = d.setStation ch st (f (d.station ch st)) := by
  unfold Dev.updateStation
  dsimp only
  split
  · rw [Dev.arbitrate_of_busy (d := d.setStation ch st _) busy, ite_self]
  · rfl

theorem Dev.updateStation_of_unchanged {d : Dev} {ch : ChanId} {st : StationId} {f : StationRec → StationRec}
    (same : f (d.station ch st) = d.station ch st) : d.updateStation ch st f = d.setStation ch st (f (d.station ch st)) := by
  unfold Dev.updateStation
  dsimp only
  rw [same, reported_self, if_neg Bool.false_ne_true]

/-! ## AlertPosted -/

theorem StationRec.alert_eq (x : StationRec) (code : Byte) : x.alert code =
    if x.hold.isSome then { x with hold := if code = 0 then none else x.hold }
    else if x.presence = .quarantined then { x with presence := .unknown, failures := 0 } else x := by
  unfold StationRec.alert
  split
  · by_cases ready : code = 0
    · rw [if_pos ready, if_pos ready]
    · rw [if_neg ready, if_neg ready]
  · rfl

/-- A record that an alert changes is not QUARANTINED after it, when no held station is. -/
theorem StationRec.alert_free {x : StationRec} {code : Byte} (sound : x.hold.isSome = true → x.presence ≠ .quarantined)
    (changes : x.alert code ≠ x) : (x.alert code).presence ≠ .quarantined := by
  unfold StationRec.alert at changes ⊢
  split at changes
  case isTrue held =>
    rw [if_pos held]
    split
    · exact sound held
    · exact sound held
  case isFalse bare =>
    rw [if_neg bare]
    split at changes
    · next quarantined =>
      rw [if_pos quarantined]
      simp
    · exact absurd rfl changes

theorem Dev.postAlert_of_room {d : Dev} {c : CrId} {e : Entry} (active : (d.cring c).state = .active)
    (room : (d.cring c).lost = 0 ∧ 1 ≤ (d.cring c).room) : d.postAlert c e = d.postCring c { entry := e, source := .alert } := by
  unfold Dev.postAlert
  dsimp only
  rw [active]
  exact if_pos room

theorem Dev.postAlert_of_full {d : Dev} {c : CrId} {e : Entry} (active : (d.cring c).state = .active)
    (full : ¬ ((d.cring c).lost = 0 ∧ 1 ≤ (d.cring c).room)) :
    d.postAlert c e = d.setCring c { d.cring c with lost := satAdd Config.shortCap (d.cring c).lost 1 } := by
  unfold Dev.postAlert
  dsimp only
  rw [active]
  exact if_neg full

theorem Dev.postAlert_of_faulted {d : Dev} {c : CrId} {e : Entry} (faulted : (d.cring c).state = .faulted) :
    d.postAlert c e = d.setCring c { d.cring c with dropped := satAdd Config.countCap (d.cring c).dropped 1 } := by
  unfold Dev.postAlert
  dsimp only
  rw [faulted]

theorem Dev.postAlert_of_disabled {d : Dev} {c : CrId} {e : Entry} (disabled : (d.cring c).state = .disabled) :
    d.postAlert c e = d := by
  unfold Dev.postAlert
  dsimp only
  rw [disabled]

/-- Settles O27: the record change causes nothing further, and the entry goes where the ring's state and room send it. -/
theorem alertPosted : Obligations.AlertPosted := by
  intro d ch w a x y e sound changed
  have updated : d.updateStation ch a.station (StationRec.alert a.code) = e := by
    have alerted : x.alert a.code = y := x.alert_eq a.code
    rw [show e = d.setStation ch a.station (x.alert a.code) from congrArg (d.setStation ch a.station) alerted.symm]
    rw [← alerted] at changed
    by_cases same : x.alert a.code = x
    · exact Dev.updateStation_of_unchanged same
    · exact Dev.updateStation_of_busy (StationRec.alert_free sound same) (changed fun eq => same eq.symm)
  have hears : d.hearAlert ch w a = if e.halted = true then e else match e.alert.decide ch a with
      | none => e
      | some used => match e.alert.map[used] with
        | .discard => e
        | .cr c => e.postAlert c (alertEntry ch w a used (e.station ch a.station).presence) := by
    rw [← updated]
    rfl
  refine ⟨fun halted => ?_, fun running rejected => ?_, fun used running accepted => ?_⟩
  · exact hears.trans (if_pos ((Dev.halted_iff d).2 halted))
  · rw [hears, if_neg (mt (Dev.halted_iff e).1 running), show e.alert.decide ch a = none from rejected]
  · have decided : d.hearAlert ch w a = match e.alert.map[used] with
        | .discard => e
        | .cr c => e.postAlert c (alertEntry ch w a used y.presence) := by
      rw [hears, if_neg (mt (Dev.halted_iff e).1 running), show e.alert.decide ch a = some used from accepted,
        show e.station ch a.station = y from Dev.station_setStation_self ..]
    refine ⟨fun discarded => ?_, fun cr steered => ?_⟩
    · rw [decided, show e.alert.map[used] = .discard from discarded]
    · intro z
      have posted : d.hearAlert ch w a = e.postAlert cr (alertEntry ch w a used y.presence) := by
        rw [decided, show e.alert.map[used] = .cr cr from steered]
      refine ⟨fun active unlost room => ?_, fun active full => ?_, fun faulted => ?_, fun disabled => ?_⟩
      · have awake : e.halted = false := Bool.eq_false_iff.2 (mt (Dev.halted_iff e).1 running)
        rw [posted, Dev.postAlert_of_room (d := e) active ⟨unlost, room⟩, Dev.postCring, awake]
        rfl
      · refine posted.trans (Dev.postAlert_of_full (d := e) active fun ⟨unlost, room⟩ => ?_)
        exact full.elim (· unlost) fun full => absurd (full ▸ room) (by decide)
      · exact posted.trans (Dev.postAlert_of_faulted (d := e) faulted)
      · exact posted.trans (Dev.postAlert_of_disabled (d := e) disabled)

end Sys2Proof.Machine
end

section
/-! PROOFS. The channel's own timers: the overlong activity (R41, R113), the end of the chatter (R42, R43), the end of the channel's
own frame (R16, R40, R57) and the quiet found with a selection (R38, R94, R95). -/

namespace Sys2Proof.Machine

/-- What a command that runs one operation of the part leaves. -/
theorem Becomes.of_exec {i : Instr} {s : State} {d e : Dev} (runs : exec i s = .next { s with dev := d }) (same : d = e) :
    Becomes i s e := same ▸ runs

/-! ## OverlongActivityChatters -/

theorem Channel.chatter_eq {c : Channel} {a : Attempt} (under : c.attempt = some a) (now : Moment) : c.chatter now = { c with
    state := .chatter, since := now, listening := none, attempt := some { a with provisional := some .garbled } } := by
  simp [Channel.chatter, Channel.garble, Channel.toChatter, under]

theorem Dev.overlongResponse_of_quiet {d : Dev} {ch : ChanId} (quiet : (d.chan ch).lineActive = false) :
    d.overlongResponse ch = d := by
  have none : (d.chan ch).overlongResponse = none := by
    unfold Channel.overlongResponse
    split <;> simp [quiet]
  rw [Dev.overlongResponse, none]

theorem Dev.overlongStretch_of_quiet {d : Dev} {ch : ChanId} (quiet : (d.chan ch).lineActive = false) :
    d.overlongStretch ch = d := by
  have none : (d.chan ch).overlongStretch = none := by
    unfold Channel.overlongStretch
    split <;> simp [quiet]
  rw [Dev.overlongStretch, none]

/-- Settles O33: each limit that runs takes its channel to CHATTER at the moment it expires, and runs only on an active line. -/
theorem overlongActivityChatters : Obligations.OverlongActivityChatters := by
  intro ch s c
  refine ⟨fun quiet => ⟨?_, ?_⟩, fun a receiving under _ active => ?_, fun l m listening hears heard active => ?_⟩
  · exact Becomes.of_exec rfl (Dev.overlongResponse_of_quiet quiet)
  · exact Becomes.of_exec rfl (Dev.overlongStretch_of_quiet quiet)
  · intro d
    have due : c.overlongResponse = some (a.started + (304 + c.gap) * c.rate.bit) := by
      rw [Channel.overlongResponse, receiving, under]
      exact if_pos active
    refine Becomes.of_exec (d := s.dev.overlongResponse ch) rfl ?_
    rw [Dev.overlongResponse, due]
    exact congrArg (d.setChan ch) (Channel.chatter_eq under d.now)
  · intro d
    have due : c.overlongStretch = some (m + (120 + c.gap) * c.rate.bit) := by
      rw [Channel.overlongStretch, listening, hears]
      dsimp only
      rw [if_pos active, heard]
      rfl
    refine Becomes.of_exec (d := s.dev.overlongStretch ch) rfl ?_
    rw [Dev.overlongStretch, due]
    refine congrArg (d.setChan ch) ((congrArg (Channel.toChatter d.now) c.countGarbled_eq).trans ?_)
    rw [hears]
    rfl

/-! ## ChatterEnds -/

theorem Channel.chatterDue_eq (c : Channel) : c.chatterDue = c.since + 8 * c.chatterLimit := by
  rw [Channel.chatterDue, micros_eq]

theorem Channel.quietBy_iff (c : Channel) (due : Moment) :
    c.quietBy due = true ↔ c.lineActive = false ∧ c.quietAt ≤ due := by
  rw [Channel.quietBy, Bool.and_eq_true, Bool.not_eq_true', decide_eq_true_iff]

section Chatter

variable {d : Dev} {ch : ChanId} (chatters : (d.chan ch).state = .chatter)

include chatters

theorem Dev.chatterQuiet_of_quiet (quiet : (d.chan ch).quietBy (d.chan ch).chatterDue = true) : d.chatterQuiet ch =
    ((d.tick (d.chan ch).quietAt).endChatter ch (d.chan ch).lastQuiet false).activityOver ch :=
  if_pos ⟨chatters, quiet⟩

theorem Dev.chatterLimit_of_expires (expires : (d.chan ch).expires (d.chan ch).chatterDue = true) : d.chatterLimit ch =
    ((d.tick (d.chan ch).chatterDue).endChatter ch (d.chan ch).chatterDue true).enterStuck ch :=
  if_pos ⟨chatters, expires⟩

end Chatter

/-- Settles O31: either timer ends the chatter, with the attempt's verdict or with the account of a listening. -/
theorem chatterEnds : Obligations.ChatterEnds := by
  intro ch s c quiet due chatters
  have dueIs : c.chatterDue = due := c.chatterDue_eq
  have found (line : c.lineActive = false) (before : quiet ≤ due) : Becomes (.chatterQuietFound ch) s
      (((s.dev.tick quiet).endChatter ch c.lastQuiet false).activityOver ch) :=
    Becomes.of_exec rfl
      (Dev.chatterQuiet_of_quiet chatters ((c.quietBy_iff _).2 ⟨line, by rwa [dueIs]⟩))
  have limit (unfound : c.lineActive = true ∨ due ≤ quiet) : Becomes (.chatterLimitExpiry ch) s
      (((s.dev.tick due).endChatter ch due true).enterStuck ch) := by
    have expires : c.expires c.chatterDue = true := (c.expires_iff _).2 (by rwa [dueIs])
    have expiry := Dev.chatterLimit_of_expires chatters expires
    rw [dueIs] at expiry
    exact Becomes.of_exec rfl expiry
  refine ⟨fun line before under => ?_, fun line before bare => ?_, fun unfound under => ?_, fun unfound bare up free => ?_,
    fun unfound => ?_, fun line early => ?_⟩
  · exact (found line before).of_eq (congrArg (Dev.activityOver · ch) (if_pos under))
  · exact (found line before).of_eq (congrArg (Dev.activityOver · ch) (if_neg fun under => by simp [show (s.dev.chan ch).attempt = none from bare] at under))
  · exact (limit unfound).of_eq (congrArg (Dev.enterStuck · ch) (if_pos under))
  · refine (limit unfound).of_eq ((congrArg (Dev.enterStuck · ch) (if_neg fun under => by simp [show (s.dev.chan ch).attempt = none from bare] at under)).trans ?_)
    refine (Dev.enterStuck_of_not_disableParked (d := (s.dev.tick due).setChan ch (c.account due))
      ((Dev.not_halted_iff _).2 up) free).trans ?_
    rw [Dev.chan_setChan_self, Dev.setChan_setChan]
  · refine Becomes.of_exec rfl (if_neg fun ⟨_, found⟩ => ?_)
    obtain ⟨line, before⟩ := (c.quietBy_iff _).1 found
    rw [dueIs] at before
    exact unfound.elim (fun active => nomatch active.symm.trans line) fun late => absurd before (Nat.not_le.2 late)
  · refine Becomes.of_exec rfl (if_neg fun ⟨_, expires⟩ => ?_)
    rw [dueIs] at expires
    obtain active | late := (c.expires_iff _).1 expires
    · exact nomatch active.symm.trans line
    · exact absurd early (Nat.not_lt.2 late)

/-! ## FrameSentReleases -/

/-- The channel that has released the line at its frame end (R40). -/
theorem Dev.frameSent_of_sending {d : Dev} {ch : ChanId} {a : Attempt} (sending : (d.chan ch).state = .sending)
    (under : (d.chan ch).attempt = some a) :
    let u := (d.tick (d.chan ch).sendEnds).setChan ch (d.chan ch).release
    (a.kind = .transaction → d.frameSent ch =
      u.setChan ch ((d.chan ch).release.await (a.station.map fun st => (u.station ch st).respWindow))) ∧
    (a.kind = .broadcast → d.frameSent ch =
      u.setChan ch (((d.chan ch).release.await none).afterBroadcast u.now)) ∧
    (a.kind = .call → d.frameSent ch = u.callSent ch a.window) := by
  intro u
  have own : u.chan ch = (d.chan ch).release := Dev.chan_setChan_self ..
  unfold Dev.frameSent
  rw [sending, under]
  dsimp only
  refine ⟨fun kind => ?_, fun kind => ?_, fun kind => ?_⟩
  all_goals rw [kind]
  · exact congrArg (fun c => u.setChan ch (Channel.await (a.station.map fun st => (u.station ch st).respWindow) c)) own
  · exact congrArg (fun c => u.setChan ch (Channel.afterBroadcast u.now (Channel.await none c))) own
  · rfl

/-- A CALL frame has ended: its activity is accounted, and no attempt is under way. -/
def Channel.called (c : Channel) : Channel := { c.account c.sendEnds with attempt := none }

theorem Dev.callSent_eq (d : Dev) (ch : ChanId) (id : WindowId) : d.callSent ch id =
    if d.disableParked ch = true ∨ d.halted = true ∨ ¬ (d.chan ch).called.canListen id = true then
      (d.setChan ch (d.chan ch).called).activityOver ch
    else d.setChan ch ((d.chan ch).called.listen id) := by
  unfold Dev.callSent
  dsimp only
  rw [Dev.modChan, Dev.modChan, Dev.chan_setChan_self, Dev.setChan_setChan]
  rfl

theorem Channel.await_eq {c : Channel} {a : Attempt} (under : c.attempt = some a) (window : Option Nat) : c.await window = { c with
    state := .awaiting, attempt := some { a with opened := c.sendEnds, respWindow := window } } := by
  rw [Channel.await, under]
  rfl

/-- Whether a CALL's window is still open at the frame end, by the current window (R57). -/
theorem Channel.canListen_iff {c : Channel} {w : WindowRec} (window : c.window = some w) (id : WindowId) :
    c.canListen id = true ↔ c.sendEnds < id.ends ∧ w.cycle = id.cycle ∧ w.index = id.index := by
  simp [Channel.canListen, window]

theorem Channel.listen_eq (c : Channel) (id : WindowId) : c.listen id = { c with
    state := .listening
    listening := some { window := id, ended := false, stretch := if c.lineActive then some c.activeSince else none }
    activity := if c.lineActive then some { ownEnd := id.ends, crossed := [] } else c.activity } := by
  cases active : c.lineActive <;> simp [Channel.listen, Channel.hearStretch, active]

/-- Settles O34: the frame end releases the line, and the attempt's kind says what opens. -/
theorem frameSentReleases : Obligations.FrameSentReleases := by
  intro ch s a c d free sending under
  obtain ⟨transaction, broadcast, call⟩ := Dev.frameSent_of_sending (d := s.dev) sending under
  have sent {e : Dev} (same : s.dev.frameSent ch = e) : Becomes (.frameSent ch) s e := Becomes.of_exec rfl same
  have await (window : Option Nat) := Channel.await_eq (c := c.release) under window
  have twice (x y : Channel) : (d.setChan ch x).setChan ch y = d.setChan ch y := Dev.setChan_setChan ..
  refine ⟨fun st kind known => ?_, fun kind quiet => ?_, fun kind active => ?_, fun w kind enabled up window => ?call⟩
  · refine sent ((transaction kind).trans ?_)
    have read : (a.station.map fun j => ((d.setChan ch c.release).station ch j).respWindow) = some (s.dev.station ch st).respWindow := by
      rw [known]
      rfl
    exact (twice ..).trans (congrArg (d.setChan ch) ((congrArg c.release.await read).trans (await _)))
  · refine sent ((broadcast kind).trans ((twice ..).trans (congrArg (d.setChan ch) ?_)))
    exact (congrArg (Channel.afterBroadcast _) (await none)).trans (if_neg (by simpa [Channel.release] using quiet))
  · refine sent ((broadcast kind).trans ((twice ..).trans (congrArg (d.setChan ch) ?_)))
    refine (congrArg (Channel.afterBroadcast _) (await none)).trans ((if_pos (by simpa [Channel.release] using active)).trans ?_)
    exact Channel.chatter_eq (a := { a with opened := c.sendEnds, respWindow := none }) rfl _
  case call =>
    let ended := free.called
    have kept : ended.window = c.window ∧ ended.sendEnds = c.sendEnds := by
      simp only [ended, Channel.called, Channel.account_eq_ended]
      exact ⟨rfl, rfl⟩
    obtain ⟨ofWindow, ofSend⟩ := kept
    have own : (d.setChan ch c.release).chan ch = free := Dev.chan_setChan_self ..
    have ends : s.dev.frameSent ch =
        if ended.canListen a.window = true then d.setChan ch (ended.listen a.window) else (d.setChan ch ended).activityOver ch := by
      refine (call kind).trans ((Dev.callSent_eq (d.setChan ch c.release) ch a.window).trans ?_)
      rw [own, twice, twice]
      by_cases listens : ended.canListen a.window = true
      · rw [if_pos listens]
        refine if_neg ?_
        rintro (disabled | halted | deaf)
        · exact nomatch enabled.symm.trans disabled
        · exact up ((Dev.halted_iff _).1 halted)
        · exact deaf listens
      · rw [if_neg listens]
        exact if_pos (.inr (.inr listens))
    refine ⟨fun cycle index before => ?_, fun gone => ?_⟩
    · refine sent (ends.trans ((if_pos ?_).trans (congrArg (d.setChan ch) ?_)))
      · exact (Channel.canListen_iff (ofWindow.trans window) _).2 ⟨ofSend ▸ before, cycle, index⟩
      · simp only [ended, Channel.listen_eq, Channel.called, Channel.account_eq_ended]
        rfl
    · refine sent (ends.trans ((if_neg fun listens => ?_).trans (Dev.activityOver_of_free enabled)))
      obtain ⟨before, cycle, index⟩ := (Channel.canListen_iff (ofWindow.trans window) _).1 listens
      obtain late | other | other := gone
      · exact absurd (ofSend ▸ before) (Nat.not_lt.2 late)
      · exact other cycle
      · exact other index

/-! ## The head of a ring -/

theorem Dev.headOf_eq_some_iff {d : Dev} {r : RingId} {v : HeadView} : d.headOf r = some v ↔
    (d.ring r).binding = some v.binding ∧ (∃ rest, (d.ring r).staging = v.staged :: rest) ∧ (d.ring r).head = some v.head := by
  constructor
  · intro head
    unfold Dev.headOf at head
    split at head
    case h_1 b sr rest h binding staging own =>
      cases head
      exact ⟨binding, ⟨rest, staging⟩, own⟩
    case h_2 => contradiction
  · rintro ⟨binding, ⟨rest, staging⟩, own⟩
    rw [Dev.headOf, binding, staging, own]

theorem Dev.modHead_of_head {d : Dev} {r : RingId} {v : HeadView} (head : d.headOf r = some v) (f : Head → Head) :
    d.modHead r f = d.setRing r { d.ring r with head := some (f v.head) } := by
  obtain ⟨-, -, own⟩ := Dev.headOf_eq_some_iff.1 head
  rw [Dev.modHead, Dev.modRing, own, Option.map_some]

/-! ## QuietFoundSends -/

theorem Channel.quietDue_of_wait (c : Channel) (due : c.lineActive = false ∧ c.quietAt ≤ c.since + 8 * c.quietLimit) :
    c.quietBy c.quietDue = true := by
  rw [c.quietDue_eq]
  exact (c.quietBy_iff _).2 due

section Selected

variable {d : Dev} {ch : ChanId} {w : WindowRec} (window : (d.chan ch).window = some w)

include window

theorem Dev.checkSelection_of_transaction {r : RingId} {slot : Nat} (selected : (d.chan ch).selection = some (.transaction r slot)) :
    (∀ v, d.headOf r = some v → v.staged.slot = slot → d.candidate ch w r = true → d.checkSelection ch = d.startAttempt ch r v w) ∧
    (d.headOf r = none ∨ (∃ v, d.headOf r = some v ∧ v.staged.slot ≠ slot) ∨ d.candidate ch w r = false →
      d.checkSelection ch = d.enterIdle ch) := by
  unfold Dev.checkSelection
  rw [selected, window]
  dsimp only
  refine ⟨fun v head own meets => ?_, fun fails => ?_⟩
  · rw [head]
    exact if_pos ⟨own, meets⟩
  · cases head : d.headOf r with
    | none => rfl
    | some v =>
      refine if_neg fun ⟨own, meets⟩ => ?_
      obtain absent | ⟨x, head', other⟩ | unfit := fails
      · exact nomatch absent.symm.trans head
      · cases head.symm.trans head'
        exact other own
      · exact nomatch unfit.symm.trans meets

theorem Dev.checkSelection_of_call {id : WindowId} (selected : (d.chan ch).selection = some (.call id)) : d.checkSelection ch =
    if w.kind = .alert ∧ w.cycle = id.cycle ∧ w.index = id.index then
      d.setChan ch ((d.chan ch).send
        { kind := .call, ring := none, station := none, toggle := false, resync := false, expected := none, window := id }
        callFrame d.now)
    else d.enterIdle ch := by
  unfold Dev.checkSelection
  rw [selected, window]
  rfl

omit window

theorem Dev.startAttempt_of_station {r : RingId} {v : HeadView} {st : StationId} (head : d.headOf r = some v) (known : v.station = some st)
    (w : WindowRec) :
    let x := d.station ch st
    let t := v.staged.record
    d.startAttempt ch r v w = ((d.setRing r { d.ring r with head := some { v.head.fixLimits t (some x) with
        attempts := v.head.attempts + 1, state := .onLine, window := some (w.cycle, w.index) } }).setStation ch st
          { x with mark := true }).setChan ch { (d.chan ch).send {
            kind := .transaction, ring := some r, station := some st, toggle := x.toggle, resync := x.presence != .present
            expected := some t.bytesIn, window := { cycle := w.cycle, index := w.index, ends := w.ends } }
          (commandFrame t x.toggle (x.presence != .present)) d.now with
        lastGranted := r
        counters := { (d.chan ch).counters with attempts := satAdd Config.countCap (d.chan ch).counters.attempts 1 } } := by
  intro x t
  unfold Dev.startAttempt
  rw [known]
  dsimp only
  rw [Dev.modHead_of_head head]
  rfl

theorem Dev.startAttempt_of_broadcast {r : RingId} {v : HeadView} (head : d.headOf r = some v) (none : v.station = none)
    (w : WindowRec) :
    let t := v.staged.record
    d.startAttempt ch r v w = (d.setRing r { d.ring r with head := some { v.head.fixLimits t Option.none with
        attempts := v.head.attempts + 1, state := .onLine, window := some (w.cycle, w.index) } }).setChan ch {
          (d.chan ch).send {
            kind := .broadcast, ring := some r, station := Option.none, toggle := false, resync := false
            expected := Option.none, window := { cycle := w.cycle, index := w.index, ends := w.ends } }
          (commandFrame t false false) d.now with
        lastGranted := r
        counters := { (d.chan ch).counters with attempts := satAdd Config.countCap (d.chan ch).counters.attempts 1 } } := by
  intro t
  unfold Dev.startAttempt
  rw [none]
  dsimp only
  rw [Dev.modHead_of_head head]
  rfl

end Selected

/-- Settles O30: the quiet is found, and the check of the selection sends it or drops it. -/
theorem quietFoundSends : Obligations.QuietFoundSends := by
  intro ch s w c quiet d id waits line early window
  have found {e : Dev} (same : d.checkSelection ch = e) : Becomes (.quietFound ch) s e :=
    Becomes.of_exec rfl ((if_pos ⟨waits, c.quietDue_of_wait ⟨line, early⟩⟩).trans same)
  have windowNow : (d.chan ch).window = some w := window
  refine ⟨fun r v st selected head known meets => ?_, fun r v selected head none meets => ?_, fun call selected => ?_,
    fun r slot selected fails => ?_, fun left => ?_⟩
  · intro x t resync
    refine found (((Dev.checkSelection_of_transaction windowNow selected).1 v head rfl meets).trans ?_)
    exact Dev.startAttempt_of_station (d := d) head known w
  · intro t
    refine found (((Dev.checkSelection_of_transaction windowNow selected).1 v head rfl meets).trans ?_)
    exact Dev.startAttempt_of_broadcast (d := d) head none w
  · have called := Dev.checkSelection_of_call windowNow selected
    refine ⟨fun alert cycle index => found (called.trans (if_pos ⟨alert, cycle, index⟩)), fun other => ?_⟩
    refine found (called.trans (if_neg fun ⟨alert, cycle, index⟩ => ?_))
    exact other.elim (· alert) fun other => other.elim (· cycle) (· index)
  · exact found ((Dev.checkSelection_of_transaction windowNow selected).2 fails)
  · refine found ?_
    rw [Dev.checkSelection, show (d.chan ch).selection = some .left from left]

end Sys2Proof.Machine
end

section
/-! PROOFS. The schedule: what a rule of the station table causes (R20), the expiries taken apart from their cycle start (R26,
R88), and the window start (R48, R54). -/

namespace Sys2Proof.Machine

/-! ## A change of a record and its report (R20) -/

theorem Dev.setStation_station (d : Dev) (ch : ChanId) (st : StationId) : d.setStation ch st (d.station ch st) = d := by
  simp [Dev.setStation, Dev.station]

theorem Dev.updateStation_of_same {d : Dev} {ch : ChanId} {st : StationId} {f : StationRec → StationRec}
    (same : f (d.station ch st) = d.station ch st) : d.updateStation ch st f = d := by
  rw [Dev.updateStation_of_unchanged same, same, Dev.setStation_station]

/-- A change that frees the station and leaves it out of quarantine is an arbitration occasion alone (R90). -/
theorem Dev.updateStation_of_freed {d : Dev} {ch : ChanId} {st : StationId} {f : StationRec → StationRec}
    (freed : freedBy (d.station ch st) (f (d.station ch st)) = true) (awake : (f (d.station ch st)).presence ≠ .quarantined) :
    d.updateStation ch st f = (d.setStation ch st (f (d.station ch st))).arbitrate ch := by
  unfold Dev.updateStation
  dsimp only
  rw [if_pos (by rw [reported, freed, Bool.true_or, Bool.true_or]), if_neg awake, if_pos freed]

/-! ## ExpiriesOfACycle -/

theorem StationRec.expire_of_later {x : StationRec} {e cycle : Cycle} (held : x.hold = some e) (later : Cycle.after e cycle = true) :
    x.expire cycle = x := by
  rw [StationRec.expire, held]
  exact if_pos later

theorem StationRec.expire_of_past {x : StationRec} {e cycle : Cycle} (held : x.hold = some e) (past : Cycle.after e cycle = false) :
    x.expire cycle = { x with hold := none } := by
  rw [StationRec.expire, held]
  exact if_neg (by simp [past])

theorem StationRec.expire_of_free {x : StationRec} (free : x.hold = none) (cycle : Cycle) : x.expire cycle = x := by
  rw [StationRec.expire, free]

theorem TransRecord.passed_iff (t : TransRecord) (cycle : Cycle) :
    t.passed cycle = true ↔ t.deadlineFlag = true ∧ Cycle.before t.deadline cycle = true := by
  rw [TransRecord.passed, Bool.and_eq_true]

theorem Dev.checkDeadline_of_head {d : Dev} {r : RingId} {v : HeadView} (head : d.headOf r = some v) : d.checkDeadline r =
    if ((d.ring r).state = .active ∨ (d.ring r).state = .stopping ∨ (d.ring r).state = .faulted) ∧ v.head.waiting = true ∧
        v.staged.record.passed (d.chan v.binding.channel).cycle = true then d.assignFinal r (d.finalOf v .expired) else d := by
  rw [Dev.checkDeadline, head]

/-- Settles O37: the rule for one hold and the rule for one head, each taken alone. -/
theorem expiriesOfACycle : Obligations.ExpiriesOfACycle := by
  intro ch st r s c x removed
  have expires (up : c.state ≠ .off) : s.dev.holdExpires ch st = s.dev.updateStation ch st (StationRec.expire c.cycle) := if_neg up
  have becomes {e : Dev} (same : s.dev.holdExpires ch st = e) : Becomes (.holdExpiry ch st) s e := Becomes.of_exec rfl same
  refine ⟨fun e up held awake => ?_, fun idle => ?_, fun v head on => ?head⟩
  · have occasion (past : Cycle.after e c.cycle = false) : s.dev.holdExpires ch st = removed.arbitrate ch := by
      have gone : x.expire c.cycle = { x with hold := none } := StationRec.expire_of_past held past
      rw [expires up, Dev.updateStation_of_freed, show s.dev.station ch st = x from rfl, gone]
      · rw [show s.dev.station ch st = x from rfl, gone, freedBy, held]
        rfl
      · rw [show s.dev.station ch st = x from rfl, gone]
        exact awake
    refine ⟨fun past => becomes (occasion past), fun past busy => becomes ((occasion past).trans ?_), fun later => ?_⟩
    · exact Dev.arbitrate_of_busy (d := removed) busy
    · exact becomes ((expires up).trans (Dev.updateStation_of_same (StationRec.expire_of_later held later)))
  · obtain free | off := idle
    · by_cases off : c.state = .off
      · exact becomes (if_pos off)
      · exact becomes ((expires off).trans (Dev.updateStation_of_same (StationRec.expire_of_free free _)))
    · exact becomes (if_pos off)
  case head =>
    intro state passed
    obtain ⟨binding, -, -⟩ := Dev.headOf_eq_some_iff.1 head
    have checks : s.dev.deadlineEvent r = s.dev.checkDeadline r := by
      rw [Dev.deadlineEvent, binding]
      exact if_neg on
    have becomes {e : Dev} (same : s.dev.checkDeadline r = e) : Becomes (.deadlinePassed r) s e :=
      Becomes.of_exec (d := s.dev.deadlineEvent r) rfl (checks.trans same)
    have ended := (TransRecord.passed_iff v.staged.record (s.dev.chan v.binding.channel).cycle)
    refine ⟨fun live waits past => becomes ?_, fun stays => becomes ?_⟩
    · exact (Dev.checkDeadline_of_head head).trans (if_pos ⟨by simpa [state] using live, waits, ended.2 past⟩)
    · refine (Dev.checkDeadline_of_head head).trans (if_neg fun ⟨live, waits, past⟩ => ?_)
      obtain dead | out | early := stays
      · change state = _ ∨ state = _ ∨ state = _ at live
        simp only [List.mem_cons, List.not_mem_nil, or_false] at dead
        obtain dead | dead := dead <;> simp [dead] at live
      · exact nomatch out.symm.trans waits
      · exact early (ended.1 past)

/-! ## WindowStartByState -/

theorem Channel.windowAt_eq {c : Channel} {i : Nat} {n : Window} (entry : c.operational[i]? = some n) (t : Moment) :
    c.windowAt i t = some {
      cycle := c.cycle, index := i, kind := n.kind, classes := n.classes, ends := t + 8 * n.duration
      call := if n.kind = .alert then .due else .notDue } := by
  rw [Channel.windowAt, entry, Option.map_some, micros_eq]

theorem Dev.actOnWindow_of_idle {d : Dev} {ch : ChanId} {w : WindowRec} (idle : (d.chan ch).state = .idle)
    (window : (d.chan ch).window = some w) :
    (w.kind = .transact → d.actOnWindow ch = d.arbitrate ch) ∧ (w.kind = .quiet → d.actOnWindow ch = d) ∧
    (w.kind = .alert → w.call = .due → d.actOnWindow ch = d.setChan ch ((d.chan ch).selectCall w d.now)) := by
  unfold Dev.actOnWindow
  rw [idle, window]
  dsimp only
  refine ⟨fun kind => ?_, fun kind => ?_, fun kind due => ?_⟩
  · rw [kind]
  · rw [kind]
  · rw [kind]
    exact if_pos due

/-- A window's end changes of the channel only the activity that lasts (R66). -/
theorem Channel.cross_eq (c : Channel) : c.cross = { c with activity := c.cross.activity } := by
  unfold Channel.cross
  split
  · split <;> rfl
  · rfl

/-- A window start in each channel state (R54). -/
theorem Dev.takeWindow_eq (d : Dev) (ch : ChanId) (w : Option WindowRec) :
    let u := d.setChan ch { (d.chan ch).cross with window := w }
    ((d.chan ch).state = .idle → d.takeWindow ch w = u.actOnWindow ch) ∧
    (∀ l, (d.chan ch).state = .listening → (d.chan ch).listening = some l → d.takeWindow ch w =
      if l.stretch = none ∧ ¬ (d.chan ch).lineActive = true then u.enterIdle ch
      else d.setChan ch { (d.chan ch).cross with window := w, listening := some { l with ended := true } }) ∧
    ((d.chan ch).state ≠ .idle → ((d.chan ch).state = .listening → (d.chan ch).listening = none) → d.takeWindow ch w = u) := by
  intro u
  have own : u.chan ch = { (d.chan ch).cross with window := w } := Dev.chan_setChan_self ..
  have state : (u.chan ch).state = (d.chan ch).state := by
    rw [own, Channel.cross_eq]
  have listening : (u.chan ch).listening = (d.chan ch).listening := by
    rw [own, Channel.cross_eq]
  have line : (u.chan ch).lineActive = (d.chan ch).lineActive := by
    rw [own, Channel.cross_eq]
  unfold Dev.takeWindow
  dsimp only
  rw [show (d.modChan ch fun c => { c.cross with window := w }) = u from rfl, state, listening, line]
  refine ⟨fun idle => ?_, fun l listens hears => ?_, fun busy deaf => ?_⟩
  · rw [idle]
  · rw [listens, hears]
    dsimp only
    rw [Dev.modChan, own, Dev.setChan_setChan]
  · split
    case h_1 idle => exact absurd idle busy
    case h_2 listens hears => exact nomatch (deaf listens).symm.trans hears
    case h_3 => rfl

/-- Settles O36: the boundary ends the window, the next is taken, and the channel acts by its state. -/
theorem windowStartByState : Obligations.WindowStartByState := by
  intro ch s w c d i on window
  have becomes {e : Dev} (same : s.dev.windowBegins ch = e) : Becomes i s e := Becomes.of_exec rfl same
  have begins : s.dev.windowBegins ch = match c.nextWindow with
      | some (k, due) => (s.dev.tick due).takeWindow ch (c.windowAt k due)
      | none => s.dev := if_neg on
  have boundary : c.nextWindow = if w.index + 1 < c.operational.length then some (w.index + 1, w.ends) else none := by
    rw [Channel.nextWindow, window]
  refine ⟨fun last => becomes ?_, fun n entry => ?next⟩
  · rw [begins, boundary, if_neg (Nat.not_lt.2 last)]
  case next =>
    intro x next
    have takes : s.dev.windowBegins ch = d.takeWindow ch (some x) := by
      obtain ⟨inside, -⟩ := List.getElem?_eq_some_iff.1 entry
      rw [begins, boundary, if_pos inside]
      exact congrArg (d.takeWindow ch) (Channel.windowAt_eq entry _)
    obtain ⟨ofIdle, ofListening, ofOther⟩ := d.takeWindow_eq ch (some x)
    let u := d.setChan ch next
    have own : u.chan ch = next := Dev.chan_setChan_self ..
    have idleNow (idle : c.state = .idle) : (u.chan ch).state = .idle := by
      rw [own]
      exact c.cross_keeps.1.trans idle
    have windowNow : (u.chan ch).window = some x := by rw [own]
    have acts (idle : c.state = .idle) := Dev.actOnWindow_of_idle (idleNow idle) windowNow
    refine ⟨fun other => becomes (takes.trans (ofOther ?_ ?_)), fun idle kind => ?_, fun idle kind => ?_, fun idle kind => ?_,
      fun l listening hears => ⟨fun quiet still => ?_, fun lasts => ?_⟩⟩
    · rintro (idle : c.state = .idle)
      simp [idle] at other
    · rintro (listening : c.state = .listening)
      simp [listening] at other
    · exact becomes (takes.trans ((ofIdle idle).trans ((acts idle).2.1 kind)))
    · exact becomes (takes.trans ((ofIdle idle).trans ((acts idle).1 kind)))
    · refine becomes (takes.trans ((ofIdle idle).trans (((acts idle).2.2 kind (if_pos kind)).trans ?_)))
      rw [own, Dev.setChan_setChan]
      rfl
    · exact becomes (takes.trans ((ofListening l listening hears).trans (if_pos ⟨still, Bool.eq_false_iff.1 quiet⟩)))
    · refine becomes (takes.trans ((ofListening l listening hears).trans (if_neg fun ⟨still, quiet⟩ => ?_)))
      exact lasts.elim quiet (· still)

end Sys2Proof.Machine
end

section
/-! PROOFS. The end of an attempt (R13 to R16, R41, R65, R111) and the cycle start with its steps (R26, R51 to R54, R60, R61,
R88). -/

namespace Sys2Proof.Machine

/-! ## Channels that only wait (R37) -/

/-- Of every channel only the wait may differ. -/
structure Dev.ChannelsWait (d e : Dev) : Prop where
  waits : ∀ ch, (d.chan ch).Waits (e.chan ch)

theorem Dev.ChannelsWait.of_channels {d e : Dev} (same : e.channels = d.channels) : d.ChannelsWait e :=
  ⟨fun ch => Dev.chan_congr same ch ▸ .refl _⟩

theorem Dev.Calm.wait {d e : Dev} (calm : d.Calm e) : d.ChannelsWait e := ⟨calm.channels⟩

theorem Dev.ChannelsWait.trans {a b c : Dev} (h : a.ChannelsWait b) (k : b.ChannelsWait c) : a.ChannelsWait c :=
  ⟨fun ch => (h.waits ch).trans (k.waits ch)⟩

theorem Dev.ChannelsWait.foldl {α : Type} {f : Dev → α → Dev} (wait : ∀ (d : Dev) (x : α), d.ChannelsWait (f d x)) (xs : List α)
    (d : Dev) : d.ChannelsWait (xs.foldl f d) := by
  induction xs generalizing d with
  | nil => exact .of_channels rfl
  | cons x xs ih => exact (wait d x).trans (ih _)

theorem Dev.updateStation_wait (d : Dev) (ch : ChanId) (st : StationId) (f : StationRec → StationRec) :
    d.ChannelsWait (d.updateStation ch st f) :=
  (Dev.ChannelsWait.of_channels (d := d) (e := d.setStation ch st (f (d.station ch st))) rfl).trans (d.updateStation_calm ch st f).wait

theorem Dev.completeParked_wait (d : Dev) (p : Command → Bool) (status : ControlStatus) (n : Nat) :
    d.ChannelsWait (d.completeParked p status n) :=
  have ⟨_, line, _⟩ := d.completeParked_keeps p status n
  .of_channels line.1

theorem Dev.applyParkedStation_wait (d : Dev) (ch : ChanId) (st : StationId) : d.ChannelsWait (d.applyParkedStation ch st) := by
  have stays (e : Dev) : e.ChannelsWait e := .of_channels rfl
  have applied (e : Dev) (f : StationRec → StationRec) (p : Command → Bool) :
      e.ChannelsWait ((e.updateStation ch st f).completeParked p .done) :=
    (e.updateStation_wait ch st f).trans (Dev.completeParked_wait ..)
  refine Dev.ChannelsWait.foldl (fun d k => ?_) _ d
  split
  · split
    · split
      · exact applied ..
      · exact stays d
    · split
      · exact applied ..
      · exact stays d
    · exact stays d
  · exact stays d

theorem Dev.stationVerdict_wait (d : Dev) (ch : ChanId) (st : StationId) (v : Verdict) : d.ChannelsWait (d.stationVerdict ch st v) := by
  refine (d.updateStation_wait ch st fun r => r.verdict (d.chan ch).cycle v).trans (.trans ?_ (Dev.applyParkedStation_wait ..))
  exact .of_channels rfl

theorem Dev.headVerdict_wait (d : Dev) (r : RingId) (v : Verdict) (quarantined lineFault : Bool) :
    d.ChannelsWait (d.headVerdict r v quarantined lineFault) := by
  have changed (f : Head → Head) (e : Dev) : e.ChannelsWait (e.modHead r f) := .of_channels rfl
  unfold Dev.headVerdict
  split
  · exact .of_channels rfl
  · dsimp only
    split
    · exact ((changed ..).trans (Dev.assignFinal_calm ..).wait).trans (Dev.judgeStopping_calm ..).wait
    · exact ((changed ..).trans (changed ..)).trans (Dev.judgeStopping_calm ..).wait

/-! ## AttemptEnds -/

/-- The channel as the end of its attempt leaves it: counted and accounted, with no attempt, and what it then waits for. -/
theorem Dev.chan_finishAttempt {d : Dev} {ch : ChanId} {a : Attempt} (under : (d.chan ch).attempt = some a) (v : Verdict) (m : Moment)
    (lineFault : Bool) :
    ∃ x, Channel.Waits (Channel.account { d.chan ch with counters := (d.chan ch).counters.verdict v } m) x ∧
      (d.finishAttempt ch v m lineFault).chan ch = { x with attempt := none } := by
  let u := d.setChan ch (Channel.account { d.chan ch with counters := (d.chan ch).counters.verdict v } m)
  have own : u.chan ch = Channel.account { d.chan ch with counters := (d.chan ch).counters.verdict v } m := Dev.chan_setChan_self ..
  have ends (e : Dev) (wait : u.ChannelsWait e) (same : d.finishAttempt ch v m lineFault =
      e.setChan ch { e.chan ch with attempt := none }) : ∃ x,
      Channel.Waits (Channel.account { d.chan ch with counters := (d.chan ch).counters.verdict v } m) x ∧
      (d.finishAttempt ch v m lineFault).chan ch = { x with attempt := none } :=
    ⟨e.chan ch, own ▸ wait.waits ch, by rw [same, Dev.chan_setChan_self]⟩
  unfold Dev.finishAttempt at ends ⊢
  rw [under] at ends ⊢
  dsimp only at ends ⊢
  split at ends
  · exact ends _ ((Dev.stationVerdict_wait ..).trans (Dev.headVerdict_wait ..)) rfl
  · exact ends _ (Dev.headVerdict_wait ..) rfl
  · exact ends _ (.of_channels rfl) rfl

theorem Channel.Waits.counters {c e : Channel} (waits : c.Waits e) : e.counters = c.counters := by rw [waits.rest]

theorem Channel.Waits.attempt {c e : Channel} (waits : c.Waits e) : e.attempt = c.attempt := by rw [waits.rest]

/-- The activity of a channel is over: it is IDLE, in QUIET_WAIT with a selection, or OFF (R37, R45, R47). -/
theorem Dev.chan_activityOver (d : Dev) (ch : ChanId) : ((d.activityOver ch).chan ch).attempt = none ∧
    ((d.activityOver ch).chan ch).counters = (d.chan ch).counters ∧
    ((d.activityOver ch).chan ch).state ∈ [.idle, .quietWait, .off] := by
  unfold Dev.activityOver
  split
  · rw [Dev.chan_stopChannel, if_pos rfl]
    exact ⟨rfl, rfl, by simp [Channel.toOff]⟩
  · unfold Dev.enterIdle
    split
    · rw [Dev.modChan, Dev.chan_setChan_self]
      exact ⟨rfl, rfl, by simp [Channel.toOff]⟩
    · have waits := (Dev.actOnWindow_calm (d.modChan ch Channel.toIdle) ch).channels ch
      rw [Dev.modChan, Dev.chan_setChan_self] at waits
      refine ⟨waits.attempt, waits.counters, ?_⟩
      obtain same | ⟨-, selected⟩ := waits.state
      · rw [Dev.modChan, same]
        simp [Channel.toIdle]
      · rw [Dev.modChan, selected]
        simp

/-- Settles O29: each timer makes its verdict final at the moment its rule fixes, and the channel goes on from there. -/
theorem attemptEnds : Obligations.AttemptEnds := by
  intro ch s a c k counted endsBy under
  have ends {i : Instr} {due endsAt : Moment} {v : Verdict}
      (runs : exec i s = .next { s with dev := ((s.dev.tick due).finishAttempt ch v endsAt false).activityOver ch }) :
      endsBy i due v endsAt := by
    obtain ⟨x, waits, finished⟩ := Dev.chan_finishAttempt (d := s.dev.tick due) under v endsAt false
    let e := (s.dev.tick due).finishAttempt ch v endsAt false
    obtain ⟨attempt, counters, state⟩ := e.chan_activityOver ch
    obtain ⟨⟨now, alert, -⟩, -⟩ := (s.dev.tick due).finishAttempt_keeps ch v endsAt false
    obtain ⟨⟨now', alert', -⟩, -⟩ := e.activityOver_keeps ch
    have verdict : k.verdict v = counted v := by cases v <;> rfl
    refine ⟨_, runs, rfl, rfl, rfl, now'.trans now, attempt, counters.trans ?_, state, alert'.trans alert⟩
    rw [finished, ← verdict]
    exact waits.counters
  refine ⟨fun w awaiting kind window => ?_, fun v e receiving provisional ended quiet => ?_, fun awaiting kind quiet => ?_⟩
  · have due : c.windowExpiry = some (a.opened + 8 * w) := by
      rw [Channel.windowExpiry, awaiting, under]
      refine (if_pos kind).trans ?_
      rw [Attempt.windowEnds, window, Option.getD_some, micros_eq]
    refine ends (Becomes.of_exec (d := s.dev.windowExpiry ch) rfl ?_)
    rw [Dev.windowExpiry, due]
  · have due : c.trailingGap = some (v, e, max e c.lastQuiet + c.gap * c.rate.bit) := by
      rw [Channel.trailingGap, receiving, under]
      dsimp only
      rw [provisional, ended]
      exact if_neg (by simp [quiet])
    refine ends (Becomes.of_exec (d := s.dev.trailingGap ch) rfl ?_)
    rw [Dev.trailingGap, due]
  · have due : c.trailingGap = some (.validAck [], a.opened, a.opened + c.gap * c.rate.bit) := by
      rw [Channel.trailingGap, awaiting, under]
      exact if_pos ⟨kind, by simp [quiet]⟩
    refine ends (Becomes.of_exec (d := s.dev.trailingGap ch) rfl ?_)
    rw [Dev.trailingGap, due]

/-! ## The hold expiries of a cycle start (R26) -/

theorem StationRec.hold_expire (x : StationRec) (cycle : Cycle) :
    (x.expire cycle).hold = x.hold.filter fun e => Cycle.after e cycle := by
  cases held : x.hold with
  | none => rw [StationRec.expire_of_free held, held, Option.filter_none]
  | some e =>
    cases later : Cycle.after e cycle with
    | false => rw [StationRec.expire_of_past held later, Option.filter_some, later, if_neg Bool.false_ne_true]
    | true => rw [StationRec.expire_of_later held later, held, Option.filter_some, later, if_pos rfl]

/-- Of a record only hold and presence may differ. -/
structure StationRec.Ages (x y : StationRec) : Prop where
  rest : y = { x with presence := y.presence, hold := y.hold }

theorem StationRec.Ages.trans {a b c : StationRec} (h : a.Ages b) (k : b.Ages c) : a.Ages c := ⟨by rw [k.rest, h.rest]⟩

theorem StationRec.Ends.ages {x y : StationRec} (ends : x.Ends y) : x.Ages y := ⟨by rw [ends.rest]⟩

theorem StationRec.Ends.hold {x y : StationRec} (ends : x.Ends y) : y.hold = x.hold := by rw [ends.rest]

theorem StationRec.expire_ages (x : StationRec) (cycle : Cycle) : x.Ages (x.expire cycle) := by
  unfold StationRec.expire
  split
  · split <;> exact ⟨rfl⟩
  · exact ⟨rfl⟩

theorem Channel.Waits.cycle {c e : Channel} (waits : c.Waits e) : e.cycle = c.cycle := by rw [waits.rest]

/-- One station's hold expiry (R26). -/
theorem Dev.station_expire (d : Dev) (ch : ChanId) (st k : StationId) (cycle : Cycle) :
    let x := d.station ch k
    let y := (d.updateStation ch st (StationRec.expire cycle)).station ch k
    x.Ages y ∧ y.hold = if k = st then x.hold.filter fun e => Cycle.after e cycle else x.hold := by
  intro x y
  have ends := (d.updateStation_calm ch st (StationRec.expire cycle)).stations ch k
  obtain rfl | other := eq_or_ne k st
  · rw [Dev.station_setStation_self] at ends
    exact ⟨(x.expire_ages cycle).trans ends.ages, by rw [if_pos rfl, ← x.hold_expire cycle]; exact ends.hold⟩
  · rw [Dev.station_setStation_ne _ _ (.inr other)] at ends
    exact ⟨ends.ages, by rw [if_neg other]; exact ends.hold⟩

/-- The hold expiries of some stations, each at the channel's cycle number. -/
theorem Dev.stations_expire (xs : List StationId) (d : Dev) (ch : ChanId) (k : StationId) :
    let e := xs.foldl (fun d st => d.updateStation ch st (StationRec.expire (d.chan ch).cycle)) d
    (d.station ch k).Ages (e.station ch k) ∧ (e.station ch k).hold =
      if k ∈ xs then (d.station ch k).hold.filter fun e => Cycle.after e (d.chan ch).cycle else (d.station ch k).hold := by
  induction xs generalizing d with
  | nil => exact ⟨⟨rfl⟩, by simp⟩
  | cons st xs ih =>
    obtain ⟨ages, hold⟩ := d.station_expire ch st k (d.chan ch).cycle
    obtain ⟨ages', hold'⟩ := ih (d.updateStation ch st (StationRec.expire (d.chan ch).cycle))
    have cycle := ((d.updateStation_wait ch st (StationRec.expire (d.chan ch).cycle)).waits ch).cycle
    refine ⟨ages.trans ages', ?_⟩
    rw [cycle, hold] at hold'
    rw [List.foldl_cons, hold']
    by_cases own : k = st <;> by_cases later : k ∈ xs <;> simp [own, later, Option.filter_filter]

/-! ## The deadline checks of a cycle start (R88) -/

/-- No head of the ring, bound to the channel, waits past its deadline at this cycle number. -/
structure Dev.MeetsDeadline (d : Dev) (ch : ChanId) (cycle : Cycle) (r : RingId) : Prop where
  meets : ∀ v, d.headOf r = some v → v.binding.channel = ch → (d.ring r).state ∈ [.active, .stopping, .faulted] →
    v.head.waiting = true → v.staged.record.passed cycle = false

theorem Dev.MeetsDeadline.settles {d e : Dev} {ch : ChanId} {cycle : Cycle} {r : RingId} (meets : d.MeetsDeadline ch cycle r)
    (settles : (d.ring r).Settles (e.ring r)) : e.MeetsDeadline ch cycle r where
  meets v head bound live waits := by
    refine meets.meets v (settles.waiting v head waits) bound ?_ waits
    obtain same | stopped := settles.state
    · rwa [same] at live
    · simp [stopped] at live

/-- A head with a final status does not wait (R77). -/
theorem Dev.assignFinal_not_waiting {d : Dev} {r : RingId} {f : Final} {v : HeadView}
    (head : (d.assignFinal r f).headOf r = some v) : v.head.waiting = false := by
  have ended {e u : Dev} {g : Head → Head} (final : ∀ h, (g h).final = some f) (calm : (e.modHead r g).Calm u)
      (head : u.headOf r = some v) : v.head.waiting = false := by
    by_contra waits
    have before : (e.modHead r g).headOf r = some v := (calm.rings r).waiting v head (Bool.of_not_eq_false waits)
    obtain ⟨-, -, own⟩ := Dev.headOf_eq_some_iff.1 before
    rw [Dev.modHead, Dev.modRing, Dev.ring_setRing_self] at own
    obtain ⟨h, -, marked⟩ := Option.map_eq_some_iff.1 own
    exact waits (Head.not_waiting_of_final (marked ▸ final h))
  unfold Dev.assignFinal at head
  split at head
  case h_1 none => exact nomatch none.symm.trans head
  case h_2 =>
    split at head
    · refine ended (e := d) (g := fun h => { h with state := .completing, final := some f }) (fun _ => rfl) ?_ head
      exact ((Dev.calm_setChan (Channel.leaveSelection_waits ..)).trans (Dev.endTransaction_calm ..)).trans (Dev.handOver_calm ..)
    · exact ended (e := d) (g := fun h => { h with final := some f }) (fun _ => rfl) (.refl _) head

theorem Dev.checkDeadline_meets (d : Dev) (r : RingId) (ch : ChanId) : (d.checkDeadline r).MeetsDeadline ch (d.chan ch).cycle r where
  meets v head bound live waits := by
    cases before : d.headOf r with
    | none =>
      rw [show d.checkDeadline r = d by rw [Dev.checkDeadline, before], before] at head
      contradiction
    | some x =>
      rw [Dev.checkDeadline_of_head before] at head live
      split at head
      · exact nomatch (Dev.assignFinal_not_waiting head).symm.trans waits
      · next stays =>
        rw [if_neg stays] at live
        cases before.symm.trans head
        by_contra passed
        rw [Bool.not_eq_false] at passed
        exact stays ⟨by simpa using live, waits, bound ▸ passed⟩

theorem Dev.boundTo_of_head {d : Dev} {r : RingId} {v : HeadView} (head : d.headOf r = some v) :
    d.boundTo r v.binding.channel = true := by
  obtain ⟨binding, -, -⟩ := Dev.headOf_eq_some_iff.1 head
  rw [Dev.boundTo, binding]
  exact beq_self_eq_true _

theorem Dev.checkBound_meets (d : Dev) (r : RingId) (ch : ChanId) :
    (if d.boundTo r ch then d.checkDeadline r else d).MeetsDeadline ch (d.chan ch).cycle r := by
  split
  · exact d.checkDeadline_meets r ch
  · next unbound => exact ⟨fun v head bound => absurd (bound ▸ Dev.boundTo_of_head head) unbound⟩

theorem Dev.checkBound_calm (d : Dev) (r : RingId) (ch : ChanId) : d.Calm (if d.boundTo r ch then d.checkDeadline r else d) := by
  split
  · exact d.checkDeadline_calm r
  · exact .refl d

theorem Dev.foldl_meets (xs : List RingId) (d : Dev) (ch : ChanId) {r : RingId} (mem : r ∈ xs) :
    (xs.foldl (fun d r => if d.boundTo r ch then d.checkDeadline r else d) d).MeetsDeadline ch (d.chan ch).cycle r := by
  induction xs generalizing d with
  | nil => contradiction
  | cons x xs ih =>
    let e := if d.boundTo x ch then d.checkDeadline x else d
    have calm : d.Calm e := d.checkBound_calm x ch
    rw [List.foldl_cons]
    obtain rfl | later := List.mem_cons.1 mem
    · exact (d.checkBound_meets r ch).settles ((Dev.Calm.foldl (fun d r => d.checkBound_calm r ch) xs e).rings r)
    · exact (calm.channels ch).cycle ▸ ih e later

theorem mem_allStations (st : StationId) : st ∈ allStations := List.mem_ofFn.2 ⟨st, rfl⟩

theorem mem_allRings (r : RingId) : r ∈ allRings := by
  fin_cases r <;> simp [allRings]

/-- After the deadline checks of a channel no head of it waits past its deadline (R88). -/
theorem Dev.checkDeadlines_meets (d : Dev) (ch : ChanId) (r : RingId) :
    (d.checkDeadlines ch).MeetsDeadline ch (d.chan ch).cycle r :=
  Dev.foldl_meets allRings d ch (mem_allRings r)

/-! ## The window start of a cycle start (R51, R54) -/

/-- The configuration of a channel that times its frames, its counters and its cycle number are the same. -/
structure Channel.SameSetup (c e : Channel) : Prop where
  rate : e.rate = c.rate
  gap : e.gap = c.gap
  counters : e.counters = c.counters
  cycle : e.cycle = c.cycle

/-- The cycle of a channel, with its operational list, is the same too. -/
structure Channel.SameCycle (c e : Channel) : Prop extends c.SameSetup e where
  start : e.cycleStart = c.cycleStart
  length : e.cycleLength = c.cycleLength
  operational : e.operational = c.operational

theorem Channel.SameSetup.trans {a b c : Channel} (h : a.SameSetup b) (k : b.SameSetup c) : a.SameSetup c :=
  ⟨k.rate.trans h.rate, k.gap.trans h.gap, k.counters.trans h.counters, k.cycle.trans h.cycle⟩

theorem Channel.SameCycle.trans {a b c : Channel} (h : a.SameCycle b) (k : b.SameCycle c) : a.SameCycle c :=
  ⟨h.toSameSetup.trans k.toSameSetup, k.start.trans h.start, k.length.trans h.length, k.operational.trans h.operational⟩

theorem Channel.SameCycle.refl (c : Channel) : c.SameCycle c := ⟨⟨rfl, rfl, rfl, rfl⟩, rfl, rfl, rfl⟩

theorem Channel.Waits.sameCycle {c e : Channel} (waits : c.Waits e) : c.SameCycle e := by
  rw [waits.rest]
  exact ⟨⟨rfl, rfl, rfl, rfl⟩, rfl, rfl, rfl⟩

/-- What a channel does for itself leaves stations and rings as a calm operation does; of its own channel cycle and, outside
HALTED, window stay. -/
structure Dev.Acts (d e : Dev) (ch : ChanId) : Prop where
  stations : ∀ k st, (d.station k st).Ends (e.station k st)
  rings : ∀ r, (d.ring r).Settles (e.ring r)
  cycle : (d.chan ch).SameCycle (e.chan ch)
  window : d.halted = false → (e.chan ch).window.map WindowRec.plan = (d.chan ch).window.map WindowRec.plan

theorem Dev.Calm.acts {d e : Dev} (calm : d.Calm e) (ch : ChanId) : d.Acts e ch :=
  ⟨calm.stations, calm.rings, (calm.channels ch).sameCycle, fun _ => (calm.channels ch).window⟩

theorem Dev.acts_setChan {d : Dev} {ch : ChanId} {c : Channel} (cycle : (d.chan ch).SameCycle c)
    (window : d.halted = false → c.window.map WindowRec.plan = (d.chan ch).window.map WindowRec.plan) : d.Acts (d.setChan ch c) ch :=
  ⟨fun _ _ => .refl _, fun _ => .refl _, by rwa [Dev.chan_setChan_self], by rwa [Dev.chan_setChan_self]⟩

theorem Dev.Acts.trans {a b c : Dev} {ch : ChanId} (h : a.Acts b ch) (k : b.Acts c ch) (part : b.halted = a.halted) : a.Acts c ch :=
  ⟨fun j st => (h.stations j st).trans (k.stations j st), fun r => (h.rings r).trans (k.rings r), h.cycle.trans k.cycle,
    fun up => (k.window (part.trans up)).trans (h.window up)⟩

theorem Channel.cross_sameCycle (c : Channel) (w : Option WindowRec) : c.SameCycle { c.cross with window := w } := by
  rw [Channel.cross_eq]
  exact ⟨⟨rfl, rfl, rfl, rfl⟩, rfl, rfl, rfl⟩

theorem Dev.enterIdle_acts (d : Dev) (ch : ChanId) : d.Acts (d.enterIdle ch) ch := by
  unfold Dev.enterIdle
  split
  · next halted => exact Dev.acts_setChan ⟨⟨rfl, rfl, rfl, rfl⟩, rfl, rfl, rfl⟩ fun up => nomatch up.symm.trans halted
  · exact .trans (b := d.modChan ch Channel.toIdle) (Dev.acts_setChan ⟨⟨rfl, rfl, rfl, rfl⟩, rfl, rfl, rfl⟩ fun _ => rfl)
      ((Dev.actOnWindow_calm ..).acts ch) rfl

theorem Dev.takeWindow_acts (d : Dev) (ch : ChanId) (w : Option WindowRec) :
    (d.setChan ch { (d.chan ch).cross with window := w }).Acts (d.takeWindow ch w) ch := by
  let u := d.setChan ch { (d.chan ch).cross with window := w }
  obtain ⟨idle, listening, other⟩ := d.takeWindow_eq ch w
  by_cases isIdle : (d.chan ch).state = .idle
  · exact idle isIdle ▸ (Dev.actOnWindow_calm ..).acts ch
  by_cases hears : ∃ l, (d.chan ch).state = .listening ∧ (d.chan ch).listening = some l
  · obtain ⟨l, listens, hears⟩ := hears
    rw [listening l listens hears]
    split
    · exact Dev.enterIdle_acts ..
    · have heard : u.Acts (u.setChan ch { (d.chan ch).cross with window := w, listening := some { l with ended := true } }) ch := by
        refine Dev.acts_setChan ?_ ?_
        · rw [Dev.chan_setChan_self]
          exact ⟨⟨rfl, rfl, rfl, rfl⟩, rfl, rfl, rfl⟩
        · rw [Dev.chan_setChan_self]
          exact fun _ => rfl
      rwa [Dev.setChan_setChan] at heard
  · have deaf : (d.chan ch).state = .listening → (d.chan ch).listening = none := fun listens =>
      Option.eq_none_iff_forall_not_mem.2 fun l mem => hears ⟨l, listens, mem⟩
    exact other isIdle deaf ▸ (Dev.Calm.refl _).acts ch

/-! ## CycleStartAdvances -/

theorem Dev.swapIfDue_of_not_due {d : Dev} {ch : ChanId} (none : d.dueCommit ch = none) : d.swapIfDue ch = d := by
  rw [Dev.swapIfDue, none]

/-- The swap changes of channels and stations only the operational list of its channel (R61). -/
theorem Dev.swapIfDue_of_due {d : Dev} {ch : ChanId} {length : Nat} {late : Bool} (due : d.dueCommit ch = some (length, late)) :
    SameLine (d.setChan ch ((d.chan ch).swap length)) (d.swapIfDue ch) := by
  rw [Dev.swapIfDue, due]
  exact (Dev.completeParked_keeps ..).2.1

/-- The swap of a due commit leaves the channel's number and setup, and its stations (R61). -/
theorem Dev.swapIfDue_line (d : Dev) (ch : ChanId) :
    (d.chan ch).SameSetup ((d.swapIfDue ch).chan ch) ∧ ∀ st, (d.swapIfDue ch).station ch st = d.station ch st := by
  cases due : d.dueCommit ch with
  | none =>
    rw [Dev.swapIfDue_of_not_due due]
    exact ⟨⟨rfl, rfl, rfl, rfl⟩, fun _ => rfl⟩
  | some commit =>
    obtain ⟨length, late⟩ := commit
    obtain ⟨channels, stations⟩ := Dev.swapIfDue_of_due due
    refine ⟨?_, fun st => (Dev.station_congr stations ch st).trans rfl⟩
    rw [Dev.chan_congr channels, Dev.chan_setChan_self]
    exact ⟨rfl, rfl, rfl, rfl⟩

/-- A cycle of the operational list has begun at moment `t` (R51). -/
def Channel.timed (c : Channel) (t : Moment) : Channel := { c with cycleStart := t, cycleLength := cycleTime c.operational }

@[simp] theorem Channel.timed_cycle (c : Channel) (t : Moment) : (c.timed t).cycle = c.cycle := rfl
@[simp] theorem Channel.timed_cycleStart (c : Channel) (t : Moment) : (c.timed t).cycleStart = t := rfl
@[simp] theorem Channel.timed_cycleLength (c : Channel) (t : Moment) : (c.timed t).cycleLength = cycleTime c.operational := rfl
@[simp] theorem Channel.timed_operational (c : Channel) (t : Moment) : (c.timed t).operational = c.operational := rfl

theorem Channel.timed_setup (c : Channel) (t : Moment) : c.SameSetup (c.timed t) := ⟨rfl, rfl, rfl, rfl⟩

/-- What the steps of a cycle start at moment `t` leave (R53): the cycle of the operational list, into which a due commit has
swapped, with window 0 of it; holds that have not expired; no head past its deadline. -/
structure Dev.CycleBegun (d : Dev) (ch : ChanId) (t : Moment) (u : Dev) : Prop where
  setup : (d.chan ch).SameSetup (u.chan ch)
  start : (u.chan ch).cycleStart = t
  length : (u.chan ch).cycleLength = cycleTime (u.chan ch).operational
  kept : d.dueCommit ch = none → (u.chan ch).operational = (d.chan ch).operational
  swapped : ∀ length late, d.dueCommit ch = some (length, late) →
    (u.chan ch).operational = ((d.chan ch).slots.toList.take length).filterMap id
  window : d.halted = false → (u.chan ch).window.map WindowRec.plan = ((u.chan ch).windowAt 0 t).map WindowRec.plan
  ages : ∀ st, (d.station ch st).Ages (u.station ch st)
  holds : ∀ st, (u.station ch st).hold = (d.station ch st).hold.filter fun e => Cycle.after e (d.chan ch).cycle
  meets : ∀ r, u.MeetsDeadline ch (d.chan ch).cycle r

theorem Channel.windowAt_congr {c e : Channel} (cycle : e.cycle = c.cycle) (operational : e.operational = c.operational) (i : Nat)
    (t : Moment) : e.windowAt i t = c.windowAt i t := by
  rw [Channel.windowAt, Channel.windowAt, cycle, operational]

theorem Dev.cycleSteps_begun (d : Dev) (ch : ChanId) (t : Moment) : d.CycleBegun ch t (d.cycleSteps ch t) := by
  let swapped := d.swapIfDue ch
  obtain ⟨checked, isChecked⟩ : ∃ e, e = (swapped.expireHolds ch).checkDeadlines ch := ⟨_, rfl⟩
  obtain ⟨timed, isTimed⟩ : ∃ e, e = checked.setChan ch ((checked.chan ch).timed t) := ⟨_, rfl⟩
  obtain ⟨u, steps⟩ : ∃ u, u = d.cycleSteps ch t := ⟨_, rfl⟩
  have taken : timed.takeWindow ch ((timed.chan ch).windowAt 0 t) = u := by
    rw [steps, Dev.cycleSteps, ← isChecked, Dev.modChan, ← Channel.timed, ← isTimed]
  have own : timed.chan ch = (checked.chan ch).timed t := by rw [isTimed, Dev.chan_setChan_self]
  obtain ⟨stations, rings, ofCycle, ofWindow⟩ := timed.takeWindow_acts ch ((timed.chan ch).windowAt 0 t)
  rw [taken, Dev.chan_setChan_self] at ofCycle ofWindow
  have stationsKept (st : StationId) : (checked.station ch st).Ends (u.station ch st) := by
    have ends := stations ch st
    rwa [taken, isTimed] at ends
  have ringsKept (r : RingId) : (checked.ring r).Settles (u.ring r) := by
    have settles := rings r
    rwa [taken, isTimed] at settles
  have holdsWait : swapped.ChannelsWait (swapped.expireHolds ch) := .foldl (fun d st => d.updateStation_wait ch st _) _ _
  have heads : (swapped.expireHolds ch).Calm checked := isChecked ▸ (swapped.expireHolds ch).checkDeadlines_calm ch
  have waits : (swapped.chan ch).SameCycle (checked.chan ch) := ((holdsWait.trans heads.wait).waits ch).sameCycle
  obtain ⟨swapSetup, swapStation⟩ := d.swapIfDue_line ch
  have uCycle : (timed.chan ch).SameCycle (u.chan ch) := ((timed.chan ch).cross_sameCycle _).trans ofCycle
  have list : (u.chan ch).operational = (checked.chan ch).operational := by rw [uCycle.operational, own, Channel.timed_operational]
  have operational : (u.chan ch).operational = (swapped.chan ch).operational := list.trans waits.operational
  rw [← steps]
  refine ⟨?setup, ?start, ?length, fun none => ?kept, fun length late due => ?swapped, fun up => ?window, fun st => ?ages,
    fun st => ?holds, fun r => ?meets⟩
  case setup =>
    refine (swapSetup.trans waits.toSameSetup).trans (.trans ?_ uCycle.toSameSetup)
    rw [own]
    exact (checked.chan ch).timed_setup t
  case start => rw [uCycle.start, own, Channel.timed_cycleStart]
  case length => rw [uCycle.length, own, Channel.timed_cycleLength, list]
  case kept => rw [operational, show swapped = d from Dev.swapIfDue_of_not_due none]
  case swapped =>
    rw [operational, Dev.chan_congr (Dev.swapIfDue_of_due due).1, Dev.chan_setChan_self]
    rfl
  case window =>
    have awake : timed.halted = false := by
      obtain ⟨⟨_, _, expired, _⟩, _⟩ := swapped.expireHolds_keeps ch
      obtain ⟨⟨_, _, due, _⟩, _⟩ := d.swapIfDue_keeps ch
      have part : timed.port.part = d.port.part := by
        rw [isTimed]
        exact heads.part.trans (expired.trans due)
      rw [Dev.not_halted_iff] at up ⊢
      rwa [part]
    rw [ofWindow awake, Channel.windowAt_congr uCycle.cycle uCycle.operational]
  case ages =>
    have ages := (Dev.stations_expire allStations swapped ch st).1.trans ((heads.stations ch st).trans (stationsKept st)).ages
    rwa [swapStation] at ages
  case holds =>
    rw [((heads.stations ch st).trans (stationsKept st)).hold]
    refine (Dev.stations_expire allStations swapped ch st).2.trans ?_
    rw [if_pos (mem_allStations st), swapSetup.cycle, swapStation]
  case meets =>
    have met := (swapped.expireHolds ch).checkDeadlines_meets ch r
    rw [← isChecked, (holdsWait.waits ch).cycle, swapSetup.cycle] at met
    exact met.settles (ringsKept r)

/-- The window that a list has at its start (R51, R54). -/
theorem Channel.window_of_plan {c : Channel} {t : Moment} {w : Window} {ws : List Window} (list : c.operational = w :: ws)
    (planned : c.window.map WindowRec.plan = (c.windowAt 0 t).map WindowRec.plan) :
    ∃ x, c.window = some x ∧ x.cycle = c.cycle ∧ x.index = 0 ∧ x.kind = w.kind ∧ x.classes = w.classes ∧
      x.ends = t + 8 * w.duration := by
  have entry : c.operational[0]? = some w := by rw [list, List.getElem?_cons_zero]
  rw [Channel.windowAt_eq entry t, Option.map_some] at planned
  obtain ⟨x, window, same⟩ := Option.map_eq_some_iff.1 planned
  exact ⟨x, window, congrArg WindowRec.cycle same, congrArg WindowRec.index same, congrArg WindowRec.kind same,
    congrArg WindowRec.classes same, congrArg WindowRec.ends same⟩

/-- Settles O35: the cycle start takes place outside OFF, and its steps leave what R53 has them leave. -/
theorem cycleStartAdvances : Obligations.CycleStartAdvances := by
  intro ch s c due d
  have began (up : c.state ≠ .off) : exec (.cycleStart ch) s = .next { s with dev := d.cycleSteps ch due } :=
    Becomes.of_exec (d := s.dev.cycleBegins ch) rfl (if_neg up)
  have sameDue : (s.dev.modChan ch Channel.nextNumber).dueCommit ch = d.dueCommit ch := rfl
  refine ⟨fun off => ⟨?_, ?_⟩, fun none => ?_, fun up => ?steps⟩
  · exact Becomes.of_exec (d := s.dev.cycleBegins ch) rfl (if_pos off)
  · refine Becomes.of_exec (d := s.dev.swapEvent ch) rfl ?_
    unfold Dev.swapEvent
    rw [show s.dev.cycleBegins ch = s.dev from if_pos off, ite_self]
  · exact Becomes.of_exec (d := s.dev.swapEvent ch) rfl (if_neg (by simp [sameDue, none]))
  case steps =>
    obtain ⟨u, steps⟩ : ∃ u, u = d.cycleSteps ch due := ⟨_, rfl⟩
    have begun : d.CycleBegun ch due u := steps ▸ d.cycleSteps_begun ch due
    have now : u.now = d.now := steps ▸ (d.cycleSteps_keeps ch due).1.1
    have channel : d.chan ch = { c with cycle := c.cycle + 1 } := Dev.chan_setChan_self ..
    have number : (d.chan ch).cycle = c.cycle + 1 := by rw [channel]
    have cycle : (u.chan ch).cycle = c.cycle + 1 := begun.setup.cycle.trans number
    refine ⟨{ s with dev := u }, steps ▸ began up, rfl, rfl, steps, now, cycle, begun.start, begun.length, fun st => ?station,
      fun r v head bound live waits => ?head, fun none => ?kept, fun length late commit => ⟨?swapped, ?swaps⟩,
      fun w ws none plan running => ?window⟩
    case station =>
      intro x y
      have held : y.hold = x.hold.filter fun e => Cycle.after e (c.cycle + 1) := number ▸ begun.holds st
      have ages : x.Ages y := begun.ages st
      refine ⟨fun e after => ?_, fun e before stands => ?_, fun free => ?_, ?_, ?_, ?_⟩
      · rw [held, Option.filter_eq_some_iff] at after
        exact after.2
      · rw [held, Option.filter_eq_some_iff]
        exact ⟨before, stands⟩
      · rw [held, free, Option.filter_none]
      all_goals rw [ages.rest]
    case head =>
      intro passed
      have meets : u.MeetsDeadline ch (c.cycle + 1) r := number ▸ begun.meets r
      exact nomatch (meets.meets v head bound live waits).symm.trans ((TransRecord.passed_iff ..).2 passed)
    case kept => rw [begun.kept none, channel]
    case swapped => rw [begun.swapped length late commit, channel]
    case swaps =>
      refine (Becomes.of_exec (d := s.dev.swapEvent ch) rfl (if_pos ?_)).trans (steps ▸ began up)
      rw [sameDue, commit]
      rfl
    case window =>
      have awake : d.halted = false := (Dev.not_halted_iff d).2 running
      have list : (u.chan ch).operational = w :: ws := by rw [begun.kept none, channel, ← plan]
      obtain ⟨x, window, ofCycle, rest⟩ := Channel.window_of_plan list (begun.window awake)
      exact ⟨x, window, ofCycle.trans cycle, rest⟩

end Sys2Proof.Machine
end

section
/-! PROOFS. The setup commands (R78, R131, R132), RING_STOP (R80 to R82), RING_FLUSH (R83), CHANNEL_DISABLE (R45) and the two
station commands (R29 to R31), for the command that the engine holds: the answer in the order of its checks. -/

namespace Sys2Proof.Machine

theorem Dev.answered_eq {d : Dev} {record : Record} (hand : d.engine.inHand = some record) (status : ControlStatus) :
    d.completeInHand status = d.answered record status 0 [] := completeInHand_eq hand ..

/-! ## SetupCommandsWrite -/

theorem TransRing.settable_iff (x : TransRing) :
    x.settable = true ↔ x.state = .disabled ∨ (x.state = .stopped ∧ x.staging = [] ∧ x.reading = none) := by
  simp [TransRing.settable, and_assoc]

theorem Cring.settable_iff (x : Cring) :
    x.settable = true ↔ x.state = .disabled ∨ (x.state = .faulted ∧ x.slots.reservations = 0) := by
  simp [Cring.settable]

section Taking

variable {d : Dev} {record : Record}

theorem Dev.takeRingSetup_eq {r : RingId} {base : Addr} {b : Binding} (taking : d.Taking record (.ringSetup r base b)) :
    d.takeRingSetup = if d.flushing r = true then d.answered record .busy 0 []
      else if (d.ring r).settable = true then
        ((d.setRing r { state := .stopped, base := base, binding := some b }).answerLater).publish (fieldRing r) 0 .ringSetup
      else d.answered record .badState 0 [] := by
  rw [Dev.takeRingSetup, acting_of_taking taking, ← Dev.answered_eq taking.inHand, ← Dev.answered_eq taking.inHand]
  rfl

theorem Dev.takeCringSetup_eq {c : CrId} {base : Addr} {size : Nat} (taking : d.Taking record (.cringSetup c base size)) :
    d.takeCringSetup = if (d.cring c).settable = true then
        (((d.setCring c {
          state := .active, slots := { base := base, size := size }, waiters := (d.cring c).waiters }).answerLater).publish
          (fieldCring c) 0 (.cringSetup (d.cring c).dropped)).giveRoom c
      else d.answered record .badState 0 [] := by
  rw [Dev.takeCringSetup, acting_of_taking taking, ← Dev.answered_eq taking.inHand]
  rfl

end Taking

/-- Settles O40: each clause is one branch of the command's answer. -/
theorem setupCommandsWrite : Obligations.SetupCommandsWrite := by
  intro t s record d later
  refine ⟨fun r base b taking => ?ring, fun c base size taking => ?cring⟩
  case ring =>
    intro x settable
    have outcome {e : Dev} (same : d.takeRingSetup = e) : Becomes (.ringSetup t) s e := Becomes.of_exec rfl same
    have eq := Dev.takeRingSetup_eq (taking.tick t)
    have isFree (free : s.dev.flushing r = false) : ¬ d.flushing r = true := ne_true_of_eq_false free
    refine ⟨fun busy => outcome (eq.trans (if_pos busy)), fun free allowed => ?_, fun free refused => ?_⟩
    · exact outcome (eq.trans ((if_neg (isFree free)).trans (if_pos (x.settable_iff.2 allowed))))
    · exact outcome (eq.trans ((if_neg (isFree free)).trans (if_neg (mt x.settable_iff.1 refused))))
  case cring =>
    intro x settable
    have outcome {e : Dev} (same : d.takeCringSetup = e) : Becomes (.cringSetup t) s e := Becomes.of_exec rfl same
    have eq := Dev.takeCringSetup_eq (taking.tick t)
    refine ⟨fun allowed => outcome (eq.trans (if_pos (x.settable_iff.2 allowed))), fun refused => ?_⟩
    exact outcome (eq.trans (if_neg (mt x.settable_iff.1 refused)))

/-! ## DisableByState -/

theorem Channel.not_off_of_stopsAtOnce {c : Channel} (stops : c.stopsAtOnce = true) : c.state ≠ .off := by
  rintro off
  simp [Channel.stopsAtOnce, off] at stops

theorem Dev.takeChannelDisable_eq {d : Dev} {record : Record} {ch : ChanId} (taking : d.Taking record (.channelDisable ch)) :
    d.takeChannelDisable = if d.disableParked ch = true then d.answered record .busy 0 []
      else if (d.chan ch).state = .off then d.answered record .done 0 []
      else if (d.chan ch).state = .stuck then d.answered record .badState 0 []
      else if (d.chan ch).stopsAtOnce = true then (d.setChan ch (d.chan ch).toOff).answered record .done 0 []
      else d.parkedAtTail record .none := by
  have hand : (d.setChan ch (d.chan ch).toOff).engine.inHand = some record := taking.inHand
  rw [Dev.takeChannelDisable, acting_of_taking taking, ← Dev.answered_eq taking.inHand, ← Dev.answered_eq taking.inHand,
    ← Dev.answered_eq taking.inHand, ← Dev.answered_eq hand, ← park_eq taking.inHand]
  rfl

/-- Settles O45: each clause is one branch of the command's answer. -/
theorem disableByState : Obligations.DisableByState := by
  intro t s record ch d c i stopped taking
  have outcome {e : Dev} (same : d.takeChannelDisable = e) : Becomes i s e := Becomes.of_exec rfl same
  have eq := Dev.takeChannelDisable_eq (taking.tick t)
  refine ⟨fun busy => outcome (eq.trans (if_pos busy)), fun free => ?_⟩
  have open_ := eq.trans (if_neg (show ¬ d.disableParked ch = true from ne_true_of_eq_false free))
  have judges (on : c.state ≠ .off) (moving : c.state ≠ .stuck) := (open_.trans (if_neg on)).trans (if_neg moving)
  have stops (calm : c.stopsAtOnce = true) : Becomes i s ((d.setChan ch stopped).answered record .done 0 []) :=
    outcome ((judges (Channel.not_off_of_stopsAtOnce calm) (Channel.not_stuck_of_stopsAtOnce calm)).trans (if_pos calm))
  have parks {state : ChanState} (is : c.state = state) (on : state ≠ .off) (moving : state ≠ .stuck) (busy : ¬ c.stopsAtOnce = true) :
      Becomes i s (d.parkedAtTail record .none) := outcome ((judges (is ▸ on) (is ▸ moving)).trans (if_neg busy))
  refine ⟨fun off => outcome (open_.trans (if_pos off)), fun stuck => ?_, fun waits => ?_, fun listening => ⟨fun quiet => ?_, fun active => ?_⟩,
    fun busy => ?_⟩
  · have on : c.state ≠ .off := fun off => nomatch stuck.symm.trans off
    exact outcome ((open_.trans (if_neg on)).trans (if_pos stuck))
  · exact stops (c.stopsAtOnce_iff.2 (.inl (by simpa using waits)))
  · exact stops (c.stopsAtOnce_iff.2 (.inr ⟨listening, quiet⟩))
  · refine parks listening (by decide) (by decide) ?_
    simp [c.stopsAtOnce_iff, listening, active]
  · refine parks rfl ?_ ?_ ?_
    · rintro off
      simp [off] at busy
    · rintro stuck
      simp [stuck] at busy
    · rw [c.stopsAtOnce_iff]
      rintro (waits | ⟨listening, -⟩)
      · simp only [List.mem_cons, List.not_mem_nil, or_false] at waits
        obtain idle | waits := waits
        · simp [idle] at busy
        · simp [waits] at busy
      · simp [listening] at busy

/-! ## StationCommands -/

section Stations

variable {d : Dev} {record : Record} {ch : ChanId} {st : StationId}

theorem Dev.updated_inHand (hand : d.engine.inHand = some record) (f : StationRec → StationRec) :
    (d.updateStation ch st f).engine.inHand = some record := by
  obtain ⟨-, -, same, -⟩ := d.updateStation_keeps ch st f
  rw [same, hand]

theorem Dev.takeStationSet_eq {setting : StationSetting} (taking : d.Taking record (.stationSet ch st setting)) :
    d.takeStationSet = if d.hasParked (Command.isStationSet ch st) = true then d.answered record .busy 0 []
      else if (d.station ch st).mark = true then d.parkedAtTail record .none
      else (d.updateStation ch st (StationRec.set setting)).answered record .done 0 [] := by
  rw [Dev.takeStationSet, acting_of_taking taking, ← Dev.answered_eq taking.inHand, ← park_eq taking.inHand,
    ← Dev.answered_eq (Dev.updated_inHand taking.inHand _)]
  rfl

theorem Dev.takeStationRelease_eq (taking : d.Taking record (.stationRelease ch st)) :
    d.takeStationRelease = if d.hasParked (Command.isStationRelease ch st) = true then d.answered record .busy 0 []
      else if (d.station ch st).mark = true then d.parkedAtTail record .none
      else (d.updateStation ch st StationRec.release).answered record .done 0 [] := by
  rw [Dev.takeStationRelease, acting_of_taking taking, ← Dev.answered_eq taking.inHand, ← park_eq taking.inHand,
    ← Dev.answered_eq (Dev.updated_inHand taking.inHand _)]
  rfl

end Stations

theorem StationRec.release_eq (x : StationRec) : x.release = { x with
    hold := none
    presence := if x.presence = .quarantined then .unknown else x.presence
    failures := if x.presence = .quarantined then 0 else x.failures } := by
  unfold StationRec.release
  dsimp only
  by_cases held : x.presence = .quarantined
  · rw [if_pos held, if_pos held, if_pos held]
  · rw [if_neg held, if_neg held, if_neg held]

/-- Settles O48: each clause is one branch of the command's answer, and a change of a busy channel's station stands alone. -/
theorem stationCommands : Obligations.StationCommands := by
  intro t s record ch st d x
  refine ⟨fun setting taking => ?set, fun taking => ?release⟩
  case set =>
    intro parked
    have outcome {e : Dev} (same : d.takeStationSet = e) : Becomes (.stationSet t) s e := Becomes.of_exec rfl same
    have eq := Dev.takeStationSet_eq (taking.tick t)
    have isFree (free : parked = false) : ¬ d.hasParked (Command.isStationSet ch st) = true := ne_true_of_eq_false free
    have marked (bare : x.mark = false) : ¬ (d.station ch st).mark = true := ne_true_of_eq_false bare
    have sets (free : parked = false) (bare : x.mark = false) := (eq.trans (if_neg (isFree free))).trans (if_neg (marked bare))
    refine ⟨fun busy => outcome (eq.trans (if_pos busy)), fun free mark => ?_, fun free bare => outcome (sets free bare),
      fun free bare awake busy => outcome ((sets free bare).trans ?_)⟩
    · exact outcome ((eq.trans (if_neg (isFree free))).trans (if_pos mark))
    · refine congrArg (Dev.answered · record .done 0 []) ((Dev.updateStation_of_busy (d := d) ?_ busy).trans ?_)
      · simp [StationRec.set, awake]
      · refine congrArg (d.setStation ch st) ?_
        rw [StationRec.set, awake]
        exact congrArg (fun mark => ({ mark := mark, respWindow := _, retryLimit := _, holdLimit := _, failLimit := _ } : StationRec)) bare
  case release =>
    intro parked
    have outcome {e : Dev} (same : d.takeStationRelease = e) : Becomes (.stationRelease t) s e := Becomes.of_exec rfl same
    have eq := Dev.takeStationRelease_eq (taking.tick t)
    have isFree (free : parked = false) : ¬ d.hasParked (Command.isStationRelease ch st) = true := ne_true_of_eq_false free
    have marked (bare : x.mark = false) : ¬ (d.station ch st).mark = true := ne_true_of_eq_false bare
    have releases (free : parked = false) (bare : x.mark = false) :=
      (eq.trans (if_neg (isFree free))).trans (if_neg (marked bare))
    refine ⟨fun busy => outcome (eq.trans (if_pos busy)), fun free mark => ?_, fun free bare => outcome (releases free bare),
      fun free bare busy => outcome ((releases free bare).trans ?_)⟩
    · exact outcome ((eq.trans (if_neg (isFree free))).trans (if_pos mark))
    · refine congrArg (Dev.answered · record .done 0 []) ((Dev.updateStation_of_busy (d := d) ?_ busy).trans ?_)
      · rw [StationRec.release_eq]
        dsimp only
        split
        · simp
        · assumption
      · exact congrArg (d.setStation ch st) x.release_eq

/-! ## RingStopByState -/

theorem Dev.stopRing_of_active {d : Dev} {r : RingId} (free : d.flushing r = false) (active : (d.ring r).state = .active) : d.stopRing r =
    (((d.setRing r { d.ring r with state := .stopping }).parkInHand .none).judgeStopping r).judgeEngine := by
  rw [Dev.stopRing, if_neg (ne_true_of_eq_false free), active, Dev.modRing]

section RingStop

variable {d : Dev} {record : Record} {r : RingId} (hand : d.engine.inHand = some record)

theorem Dev.takeRingStop_eq (taking : d.Taking record (.ringStop r)) : d.takeRingStop = d.stopRing r := by
  rw [Dev.takeRingStop, acting_of_taking taking]

include hand

theorem Dev.stopRing_of_flushing (flushing : d.flushing r = true) : d.stopRing r = d.answered record .busy 0 [] := by
  rw [Dev.stopRing, if_pos flushing, Dev.answered_eq hand]

variable (free : d.flushing r = false)

include free

theorem Dev.stopRing_of_disabled (disabled : (d.ring r).state = .disabled) : d.stopRing r = d.answered record .badState 0 [] := by
  rw [Dev.stopRing, if_neg (ne_true_of_eq_false free), disabled]
  exact Dev.answered_eq hand _

theorem Dev.stopRing_of_stopped (stopped : (d.ring r).state = .stopped) : d.stopRing r = d.answered record .done 0 [] := by
  rw [Dev.stopRing, if_neg (ne_true_of_eq_false free), stopped]
  exact Dev.answered_eq hand _

theorem Dev.stopRing_of_stopping (stopping : (d.ring r).state = .stopping) : d.stopRing r = d.answered record .busy 0 [] := by
  rw [Dev.stopRing, if_neg (ne_true_of_eq_false free), stopping]
  exact Dev.answered_eq hand _

theorem Dev.stopRing_of_faulted (faulted : (d.ring r).state = .faulted) : d.stopRing r =
    if d.hasParked (Command.isRingStop r) = true then d.answered record .busy 0 []
    else if (d.ring r).staging = [] then (d.setRing r { d.ring r with state := .stopped }).answered record .done 0 []
    else d.parkedAtTail record .none := by
  have hand' : (d.setRing r { d.ring r with state := .stopped }).engine.inHand = some record := hand
  rw [Dev.stopRing, if_neg (ne_true_of_eq_false free), faulted, ← Dev.answered_eq hand, ← Dev.answered_eq hand', ← park_eq hand]
  rfl

end RingStop

theorem Dev.judgeStopping_of_not {d : Dev} {r : RingId} (moves : (d.ring r).quiet = false ∨ (d.ring r).reading.isSome) :
    d.judgeStopping r = d := by
  refine if_neg ?_
  rintro ⟨-, none, quiet⟩
  obtain moving | reading := moves
  · exact nomatch moving.symm.trans quiet
  · simp [none] at reading

/-- Settles O42: by the state of the ring, and for an ACTIVE one by what R81 then finds. -/
theorem ringStopByState : Obligations.RingStopByState := by
  intro t s record r d x i taking
  have hand : d.engine.inHand = some record := (taking.tick t).inHand
  have outcome {e : Dev} (same : d.stopRing r = e) : Becomes i s e :=
    Becomes.of_exec (d := d.takeRingStop) rfl ((Dev.takeRingStop_eq (taking.tick t)).trans same)
  refine ⟨fun busy => outcome (Dev.stopRing_of_flushing hand busy), fun free => ?_⟩
  have isFree : d.flushing r = false := free
  refine ⟨fun active moves => outcome ?_, fun active quiet none bound => ?_,
    fun disabled => outcome (Dev.stopRing_of_disabled hand isFree disabled),
    fun stopped => outcome (Dev.stopRing_of_stopped hand isFree stopped),
    fun stopping => outcome (Dev.stopRing_of_stopping hand isFree stopping), fun faulted waits => ?_,
    fun faulted first staged => ?_, fun faulted first empty => ?_⟩
  · let e := (d.setRing r { x with state := .stopping }).parkInHand .none
    have own : e.ring r = { x with state := .stopping } := by
      obtain ⟨-, -, ⟨rings, -⟩, -⟩ := (d.setRing r { x with state := .stopping }).parkInHand_keeps .none
      rw [Dev.ring_congr rings, Dev.ring_setRing_self]
    have stays : e.judgeStopping r = e := Dev.judgeStopping_of_not (by rw [own]; exact moves)
    refine (Dev.stopRing_of_active isFree active).trans ((congrArg Dev.judgeEngine stays).trans ?_)
    exact park_eq (d := d.setRing r { x with state := .stopping }) hand .none
  · let e := (d.setRing r { x with state := .stopping }).parkInHand .none
    let u := (e.judgeStopping r).judgeEngine
    obtain ⟨b, binding⟩ := Option.ne_none_iff_exists'.1 bound
    obtain ⟨⟨now, alert, -⟩, ⟨channels, stations⟩, ⟨rings, -⟩, port, -⟩ :=
      (d.setRing r { x with state := .stopping }).parkInHand_keeps .none
    obtain ⟨⟨now', alert', -⟩, ⟨channels', stations'⟩, port', -⟩ := e.judgeStopping_keeps r
    obtain ⟨⟨now'', alert'', -⟩, ⟨channels'', stations''⟩, ⟨rings'', -⟩, port''⟩ := (e.judgeStopping r).judgeEngine_keeps
    have own : e.ring r = { x with state := .stopping } := by rw [Dev.ring_congr rings, Dev.ring_setRing_self]
    let y : TransRing := { x with state := .stopped, head := x.head.map fun h => { h with reservation := .none } }
    have settled : u.rings = (d.setRing r y).rings := by
      have judged := Dev.rings_judgeStopping (d := e) (r := r) (b := b) (by rw [own]; exact binding)
      rw [rings'', judged, own, TransRing.stopped, if_pos ⟨rfl, none, quiet⟩, Dev.rings_setRing, rings, ← Dev.rings_setRing,
        Dev.setRing_setRing]
    have ring : u.ring r = y := (Dev.ring_congr settled r).trans (Dev.ring_setRing_self ..)
    refine ⟨{ s with dev := u }, outcome (Dev.stopRing_of_active isFree active), rfl, rfl, now''.trans (now'.trans now), ?_, ?_, ?_,
      fun h head => ?_, fun k other => (Dev.ring_congr settled k).trans (Dev.ring_setRing_ne _ _ other),
      channels''.trans (channels'.trans channels), stations''.trans (stations'.trans stations), port''.trans (port'.trans port),
      alert''.trans (alert'.trans alert)⟩
    · exact (congrArg TransRing.state ring :)
    · exact (congrArg TransRing.staging ring :)
    · exact (congrArg TransRing.fetch ring :)
    · have kept : x.head.map (fun h => { h with reservation := .none }) = some h := (congrArg TransRing.head ring).symm.trans head
      obtain ⟨-, -, rfl⟩ := Option.map_eq_some_iff.1 kept
      rfl
  · exact outcome ((Dev.stopRing_of_faulted hand isFree faulted).trans (if_pos waits))
  · exact outcome ((Dev.stopRing_of_faulted hand isFree faulted).trans ((if_neg (ne_true_of_eq_false first)).trans (if_neg staged)))
  · exact outcome ((Dev.stopRing_of_faulted hand isFree faulted).trans ((if_neg (ne_true_of_eq_false first)).trans (if_pos empty)))

/-! ## RingFlushByState -/

section RingFlush

variable {d : Dev} {record : Record} {r : RingId}

theorem Dev.takeRingFlush_eq (taking : d.Taking record (.ringFlush r)) :
    d.takeRingFlush = if d.flushing r = true then d.answered record .busy 0 []
      else if (d.ring r).state ≠ .stopped then d.answered record .badState 0 []
      else if (d.ring r).staging = [] ∧ (d.ring r).fetch = (d.ring r).post then d.answered record .done 0 []
      else (if (d.ring r).staging = [] then (d.parkInHand (.flush (d.ring r).post)).judgeFlush r
        else (d.parkInHand (.flush (d.ring r).post)).askReservation r).judgeEngine := by
  rw [Dev.takeRingFlush, acting_of_taking taking, ← Dev.answered_eq taking.inHand, ← Dev.answered_eq taking.inHand,
    ← Dev.answered_eq taking.inHand]
  rfl

theorem Dev.parkInHand_eq (hand : d.engine.inHand = some record) (note : ParkNote) : d.parkInHand note = d.setEngine { d.engine with
    phase := .idle, inHand := none, parked := d.engine.parked ++ [{ record := record, waiting := true, note := note }] } := by
  rw [Dev.parkInHand, hand]

theorem commandOf_of_taking {c : Command} (taking : d.Taking record c) : commandOf record = some c := by
  obtain ⟨-, -, -, passes⟩ := taking
  rw [commandOf, passes]

theorem Dev.judgeFlush_of_noted {b : Binding} {n : Nat} (noted : d.flushNoted r = some n) (bound : (d.ring r).binding = some b)
    (empty : (d.ring r).staging = []) : d.judgeFlush r =
      (d.setRing r { d.ring r with fetch := n, consumer := n }).publish (fieldRing r) n (.flush r (distance b.size n (d.ring r).fetch)) := by
  simp only [Dev.judgeFlush, noted, bound, if_pos empty]

/-- The host post index that a RING_FLUSH has noted, once it has parked as the only one of its ring (R83). -/
theorem Dev.flushNoted_parkInHand (taking : d.Taking record (.ringFlush r)) (free : d.flushing r = false) (n : Nat) :
    (d.parkInHand (.flush n)).flushNoted r = some n := by
  have none : d.engine.parked.find? (fun k => k.matchesCommand (Command.isRingFlush r)) = none :=
    Option.isNone_iff_eq_none.1 (by simpa [Dev.flushing, Dev.hasParked, Dev.findParked] using free)
  have found : (d.parkInHand (.flush n)).findParked (Command.isRingFlush r) =
      some { record := record, waiting := true, note := .flush n } := by
    rw [Dev.parkInHand_eq taking.inHand, Dev.findParked]
    refine (List.find?_append ..).trans ?_
    rw [none, Option.none_or]
    simp [Parked.matchesCommand, commandOf_of_taking taking, Command.isRingFlush]
  rw [Dev.flushNoted, found]

end RingFlush

/-- Settles O43: each clause is one branch of the command's answer. -/
theorem ringFlushByState : Obligations.RingFlushByState := by
  intro t s record r d x i taking
  have eq := Dev.takeRingFlush_eq (taking.tick t)
  have outcome {e : Dev} (same : d.takeRingFlush = e) : Becomes i s e := Becomes.of_exec rfl same
  have isFree (free : s.dev.flushing r = false) : ¬ d.flushing r = true := ne_true_of_eq_false free
  have goes (free : s.dev.flushing r = false) (stopped : x.state = .stopped) :=
    (eq.trans (if_neg (isFree free))).trans (if_neg (not_not_intro stopped))
  refine ⟨fun busy => outcome (eq.trans (if_pos busy)), fun free other => outcome ((eq.trans (if_neg (isFree free))).trans (if_pos other)),
    fun free stopped empty caught => outcome ((goes free stopped).trans (if_pos ⟨empty, caught⟩)),
    fun b free stopped empty behind binding => ?_, fun free stopped staged => ?_⟩
  · have works := ((goes free stopped).trans (if_neg fun ⟨_, caught⟩ => behind caught)).trans
      (congrArg Dev.judgeEngine (if_pos empty))
    let e := d.parkInHand (.flush x.post)
    obtain ⟨⟨now, alert, -⟩, ⟨channels, stations⟩, ⟨rings, crings, -⟩, port, -⟩ := d.parkInHand_keeps (.flush x.post)
    have own : e.ring r = x := Dev.ring_congr rings r
    let skipped := e.setRing r { x with fetch := x.post, consumer := x.post }
    let purpose : Purpose := .flush r (distance b.size x.post x.fetch)
    have judged : e.judgeFlush r = skipped.publish (fieldRing r) x.post purpose := by
      have flushed := Dev.judgeFlush_of_noted (Dev.flushNoted_parkInHand (taking.tick t) free x.post) (by rw [own]; exact binding)
        (by rw [own]; exact empty)
      rwa [own] at flushed
    obtain ⟨⟨now', alert', -⟩, ⟨channels', stations'⟩, ⟨rings', crings', -⟩, -⟩ := skipped.publish_keeps (fieldRing r) x.post purpose
    obtain ⟨⟨now'', alert'', -⟩, ⟨channels'', stations''⟩, ⟨rings'', crings'', -⟩, port''⟩ := (e.judgeFlush r).judgeEngine_keeps
    rw [judged] at now'' alert'' channels'' stations'' rings'' crings'' port''
    obtain ⟨u, isU⟩ : ∃ u, u = (skipped.publish (fieldRing r) x.post purpose).judgeEngine := ⟨_, rfl⟩
    rw [← isU] at now'' alert'' channels'' stations'' rings'' crings'' port''
    have ring (k : RingId) : u.ring k = skipped.ring k := Dev.ring_congr (rings''.trans rings') k
    refine ⟨{ s with dev := u }, outcome (works.trans ((congrArg Dev.judgeEngine judged).trans isU.symm)), rfl, rfl,
      now''.trans (now'.trans now), (ring r).trans (Dev.ring_setRing_self ..),
      fun k other => (ring k).trans ((Dev.ring_setRing_ne _ _ other).trans (Dev.ring_congr rings k)), fun running => ?_,
      channels''.trans (channels'.trans channels), stations''.trans (stations'.trans stations), crings''.trans (crings'.trans crings),
      alert''.trans (alert'.trans alert)⟩
    have queued := Dev.fieldQueue_publish (d := skipped) (by rw [show skipped.port = d.port from port]; exact running) (fieldRing r) x.post purpose
    rw [show u.fieldQueue (fieldRing r) = (skipped.publish (fieldRing r) x.post purpose).fieldQueue (fieldRing r) by
      rw [Dev.fieldQueue, port'', Dev.fieldQueue], queued, show skipped.fieldQueue (fieldRing r) = s.dev.fieldQueue (fieldRing r) by
      rw [Dev.fieldQueue, show skipped.port = d.port from port]; rfl]
    rfl
  · have works := ((goes free stopped).trans (if_neg fun ⟨empty, _⟩ => staged empty)).trans
      (congrArg Dev.judgeEngine (if_neg staged))
    rw [Dev.parkInHand_eq (taking.tick t).inHand] at works
    exact outcome works

end Sys2Proof.Machine
end

section
/-! PROOFS. The tables of the spec: the station verdicts (R22 to R24), the needed time (R17), the overruns (R66), the verdicts at the
head and its completion (R25, R77, R97 to R101, R109, R141), and the arbitration (R87, R90 to R93). -/

namespace Sys2Proof.Machine

/-! ## StationVerdicts -/

theorem StationRec.fail_eq (x : StationRec) (stale : Bool) : x.fail stale =
    if x.failLimit ≤ min (x.failures + 1) 15 then
      { x with presence := .quarantined, hold := none, failures := min (x.failures + 1) 15 }
    else { x with presence := if stale then .unknown else x.presence, failures := min (x.failures + 1) 15 } := rfl

/-- Settles O49: each verdict by its row. -/
theorem stationVerdicts : Obligations.StationVerdicts := by
  intro x cycle data b failures answered failed
  have failing (awake : x.presence ≠ .quarantined) (stale : Bool) :
      (if x.presence = .quarantined then x else x.fail stale) = failed (if stale then .unknown else x.presence) :=
    (if_neg awake).trans (x.fail_eq stale)
  refine ⟨rfl, rfl, rfl, rfl, rfl, fun none => if_pos none, fun some => ?_, fun held => ⟨if_pos held, if_pos held, if_pos held⟩,
    fun awake => ⟨failing awake false, failing awake false, failing awake true⟩⟩
  refine (if_neg some).trans (congrArg Option.some (BitVec.eq_of_toNat_eq ?_))
  simp

/-! ## NeededTimeIsExact -/

theorem BusRate.bit_le (rate : BusRate) : rate.bit ≤ 8 := by cases rate <;> decide

theorem BusRate.bit_pos (rate : BusRate) : 0 < rate.bit := by cases rate <;> decide

/-- Settles O51: the terms of R17, each at most at the slowest rate and with the longest frames. -/
theorem neededTimeIsExact : Obligations.NeededTimeIsExact := by
  intro c x w bit out back
  have exact : neededTime c x (some w) = c.gap * bit + (64 + 8 * out) * bit + 8 * w + (48 + 8 * max back 1) * bit := by
    rw [neededTime, micros_eq, ← Nat.add_assoc]
    rfl
  refine ⟨exact, rfl, fun gap length window => ?_⟩
  have outLe : out ≤ 32 := by
    simp only [out]
    split <;> omega
  have backLe : max back 1 ≤ 32 := by
    simp only [back]
    split <;> omega
  have slowest : bit ≤ 8 := c.rate.bit_le
  rw [exact]
  calc c.gap * bit + (64 + 8 * out) * bit + 8 * w + (48 + 8 * max back 1) * bit
      ≤ 63 * 8 + (64 + 8 * 32) * 8 + 8 * 255 + (48 + 8 * 32) * 8 := by gcongr
    _ = 8 * 942 := by norm_num

/-! ## OverrunAccounted -/

/-- Settles O52: the account of an activity that ends inside its window, and of one that overruns it. -/
theorem overrunAccounted : Obligations.OverrunAccounted := by
  intro c a m activity
  have account : c.account m = { c with activity := none, counters := c.counters.ended (some a) m } := by
    rw [c.account_eq_ended m, activity]
  refine ⟨fun inside => account.trans ?_, fun past => account.trans ?_⟩
  · rw [Counters.ended, if_pos inside]
  · rw [Counters.ended, if_neg (Nat.not_le.2 past), List.countP_eq_length_filter]
    rfl

/-! ## HeadVerdicts -/

/-- Rows 5 to 7 of R97, for a verdict that is no answer. -/
theorem headFate_of_failed {h : Head} {retry : Nat} (retries : h.retryLimit = some retry) (quarantined passed : Bool) :
    let ends (status : TransStatus) : Option (TransStatus × Byte × List Byte) :=
      if h.attempts = retry + 1 ∨ quarantined = true then some (status, 0, []) else if passed then some (.expired, 0, []) else none
    headFate h .none quarantined false passed = ends .timeout ∧ headFate h .garbled quarantined false passed = ends .garbled ∧
    headFate h .stale quarantined false passed = ends .garbled := by
  simp [headFate, retries]

theorem headFate_of_hold {h : Head} {hold : Nat} (holds : h.holdLimit = some hold) (quanta : Byte) (quarantined passed : Bool) :
    headFate h (.validHold quanta) quarantined false passed =
      if hold < h.holds then some (.heldOut, 0, []) else if passed then some (.expired, 0, []) else none := by
  simp [headFate, holds]

/-- A verdict at the head, by the fate that R97 gives it. -/
theorem Dev.headVerdict_of_head {d : Dev} {r : RingId} {view : HeadView} (head : d.headOf r = some view) (v : Verdict)
    (quarantined lineFault : Bool) :
    let h := view.head.afterVerdict v
    let e := d.setRing r { d.ring r with head := some h }
    let fate := headFate h v quarantined lineFault (view.staged.record.passed (d.chan view.binding.channel).cycle)
    (fate = none → d.headVerdict r v quarantined lineFault = (e.modHead r fun h => { h with state := .pendingRetry }).judgeStopping r) ∧
    (∀ status reason data, fate = some (status, reason, data) → d.headVerdict r v quarantined lineFault =
      (e.assignFinal r (e.finalOf { view with head := h } status reason data)).judgeStopping r) := by
  intro h e fate
  have same : (e.chan view.binding.channel).cycle = (d.chan view.binding.channel).cycle := rfl
  unfold Dev.headVerdict
  rw [head]
  dsimp only
  rw [Dev.modHead_of_head head, same]
  refine ⟨fun retries => ?_, fun status reason data ends => ?_⟩
  · rw [show headFate (view.head.afterVerdict v) v quarantined lineFault _ = none from retries]
  · rw [show headFate (view.head.afterVerdict v) v quarantined lineFault _ = some (status, reason, data) from ends]

theorem Head.afterVerdict_window (h : Head) (v : Verdict) : (h.afterVerdict v).window = h.window := by
  cases v <;> rfl

theorem Dev.finalOf_eq (d : Dev) (v : HeadView) (status : TransStatus) (reason : Byte) (data : List Byte) :
    let at_ := v.head.window.getD ((d.chan v.binding.channel).cycle, d.windowIndex v.binding.channel)
    d.finalOf v status reason data = { status := status, reason := reason, data := data, cycle := at_.1, window := at_.2 } := by
  unfold Dev.finalOf
  split
  · next c i window => simp [window]
  · next window => simp [window]

theorem Dev.judgeStopping_of_runs {d : Dev} {r : RingId} (runs : (d.ring r).state ≠ .stopping) : d.judgeStopping r = d :=
  if_neg fun ⟨stopping, _⟩ => runs stopping

/-! ### The completion of a head (R77) -/

/-- A selection that names the ring, left empty. -/
def leftSelection (r : RingId) : Option Selection → Option Selection
  | some (.transaction k slot) => if k = r then some .left else some (.transaction k slot)
  | other => other

theorem Channel.leaveSelection_eq (r : RingId) (c : Channel) :
    c.leaveSelection r = { c with selection := leftSelection r c.selection } := by
  have stays (same : c.leaveSelection r = c) (kept : leftSelection r c.selection = c.selection) :
      c.leaveSelection r = { c with selection := leftSelection r c.selection } := by
    rw [same, kept]
  cases selected : c.selection with
  | none => exact selected ▸ stays (by rw [Channel.leaveSelection, selected]) (by rw [selected]; rfl)
  | some x =>
    cases x with
    | transaction k slot =>
      rw [Channel.leaveSelection, selected]
      dsimp only
      by_cases own : k = r
      · rw [if_pos own, leftSelection, if_pos own]
      · rw [if_neg own, leftSelection, if_neg own, ← selected]
    | call id => exact selected ▸ stays (by rw [Channel.leaveSelection, selected]) (by rw [selected]; rfl)
    | left => exact selected ▸ stays (by rw [Channel.leaveSelection, selected]) (by rw [selected]; rfl)

/-- The transaction end of R25 at the head's station, as a change of its record. -/
theorem StationRec.transactionEnd_eq (x : StationRec) (status : TransStatus) (n : Nat) (valid : status ≠ .invalid) :
    x.transactionEnd status n =
      if 1 ≤ n ∧ status ∉ [.ok, .naked, .invalid] ∧ x.presence ≠ .quarantined then { x with presence := .unknown } else x := by
  unfold StationRec.transactionEnd
  refine if_congr ?_ rfl rfl
  simp [valid, and_assoc]

/-- The device as the transaction end leaves it (R25, R110). -/
theorem Dev.endTransaction_of_station {d : Dev} {v : HeadView} {st : StationId} (known : v.station = some st) (f : Final) :
    let x := d.station v.binding.channel st
    d.endTransaction v f = d.setStation v.binding.channel st
      (if 1 ≤ v.head.attempts + v.head.holds ∧ f.status ∉ [.ok, .naked, .invalid] ∧ x.presence ≠ .quarantined then
        { x with presence := .unknown } else x) := by
  intro x
  rw [Dev.endTransaction, known]
  dsimp only
  by_cases invalid : f.status = .invalid
  · rw [if_pos invalid, if_neg (by simp [invalid]), Dev.setStation_station]
  · rw [if_neg invalid, StationRec.transactionEnd_eq _ _ _ invalid]

theorem Dev.endTransaction_of_broadcast {d : Dev} {v : HeadView} (none : v.station = none) (f : Final) : d.endTransaction v f = d := by
  rw [Dev.endTransaction, none]

theorem Dev.handOver_of_active {d : Dev} {c : CrId} (active : (d.cring c).state = .active) (r : RingId) (e : Entry) :
    d.handOver c r e = d.postCring c { entry := e, source := .transaction r } := by
  rw [Dev.handOver, active]

theorem Dev.handOver_of_faulted {d : Dev} {c : CrId} (faulted : (d.cring c).state = .faulted) (r : RingId) (e : Entry) :
    d.handOver c r e = ((d.setCring c { d.cring c with
      dropped := satAdd Config.countCap (d.cring c).dropped 1
      slots := { (d.cring c).slots with reservations := (d.cring c).slots.reservations - 1 } }).giveRoom c).doneReport r := by
  unfold Dev.handOver
  dsimp only
  split
  case h_1 disabled => exact nomatch disabled.symm.trans faulted
  case h_2 active => exact nomatch active.symm.trans faulted
  case h_3 => rfl

/-- A final status assigned to a head (R77). -/
theorem Dev.assignFinal_of_head {d : Dev} {r : RingId} {v : HeadView} (head : d.headOf r = some v) (f : Final) :
    (v.head.reservation ≠ .held →
      d.assignFinal r f = d.setRing r { d.ring r with head := some { v.head with final := some f } }) ∧
    (v.head.reservation = .held →
      let completing := d.setRing r { d.ring r with head := some { v.head with state := .completing, final := some f } }
      let left := completing.setChan v.binding.channel { d.chan v.binding.channel with
        selection := leftSelection r (d.chan v.binding.channel).selection }
      let ended := left.endTransaction v f
      d.assignFinal r f = ended.handOver v.binding.cring r (ended.transEntry r v f)) := by
  refine ⟨fun free => ?_, fun held => ?_⟩
  · rw [Dev.assignFinal, head]
    dsimp only
    rw [if_neg free, Dev.modHead_of_head head]
  · intro completing left ended
    rw [Dev.assignFinal, head]
    dsimp only
    rw [if_pos held, Dev.modHead_of_head head, Dev.modChan, Channel.leaveSelection_eq]
    rfl

/-- Settles O50: the fate of R97 row by row, what it makes of the head, and what a final status makes of it. -/
theorem headVerdicts : Obligations.HeadVerdicts := by
  refine ⟨?fates, ?verdict, ?final⟩
  case fates =>
    intro h v quarantined lineFault passed retry hold retries holds after fate tries
    have ends (clear : lineFault = false) (status : TransStatus) (row : headFate after v quarantined false passed =
        if after.attempts = retry + 1 ∨ quarantined = true then some (status, 0, []) else if passed then some (.expired, 0, []) else none) :
        (¬ tries → fate = some (status, 0, [])) ∧ (tries → fate = if passed then some (.expired, 0, []) else none) := by
      have same : fate = headFate after v quarantined false passed := by rw [← clear]
      refine ⟨fun last => same.trans (row.trans (if_pos ?_)), fun ⟨more, awake⟩ => same.trans (row.trans (if_neg ?_))⟩
      · by_contra stays
        obtain ⟨more, awake⟩ := not_or.1 stays
        exact last ⟨more, Bool.eq_false_iff.2 awake⟩
      · exact not_or.2 ⟨more, Bool.eq_false_iff.1 awake⟩
    refine ⟨fun fault => if_pos fault, fun clear => ⟨fun data ack => ?_, fun reason nak => ?_, fun quanta held => ?_, fun silent => ?_,
      fun failed => ?_⟩⟩
    · subst ack
      exact ⟨if_neg (by simp [clear]), rfl⟩
    · subst nak
      exact ⟨if_neg (by simp [clear]), rfl⟩
    · subst held clear
      exact ⟨rfl, headFate_of_hold (h := { h with attempts := h.attempts - 1, holds := h.holds + 1 }) holds ..⟩
    · subst silent
      obtain ⟨row, -, -⟩ := headFate_of_failed (h := after) retries quarantined passed
      exact ⟨rfl, ends clear .timeout row⟩
    · obtain ⟨-, garbled, stale⟩ := headFate_of_failed (h := { h with lastFailure := some .garbled }) retries quarantined passed
      obtain isGarbled | isStale := failed
      · subst isGarbled
        exact ⟨rfl, ends clear .garbled garbled⟩
      · subst isStale
        exact ⟨rfl, ends clear .garbled stale⟩
  case verdict =>
    intro d r view v quarantined lineFault head x t chan h fate waiting
    let e := d.setRing r { x with head := some h }
    obtain ⟨retries, ends⟩ := Dev.headVerdict_of_head head v quarantined lineFault
    have waits (retry : fate = none) : d.headVerdict r v quarantined lineFault = waiting.judgeStopping r := by
      refine (retries retry).trans (congrArg (Dev.judgeStopping · r) ?_)
      rw [Dev.modHead, Dev.modRing, Dev.ring_setRing_self, Dev.setRing_setRing]
      rfl
    refine ⟨waits, fun retry runs => (waits retry).trans (Dev.judgeStopping_of_runs ?_), fun status reason data final => ?_⟩
    · rw [Dev.ring_setRing_self]
      exact runs
    · intro at_
      refine (ends status reason data final).trans (congrArg (fun f => (e.assignFinal r f).judgeStopping r) ?_)
      refine (e.finalOf_eq { view with head := h } status reason data).trans ?_
      rw [show ({ view with head := h } : HeadView).head.window = view.head.window from view.head.afterVerdict_window v]
      rfl
  case final =>
    intro d r v f head x b t chan ring completing left ended reported entry
    obtain ⟨unheld, ends⟩ := Dev.assignFinal_of_head head f
    have isReported : left.endTransaction v f = reported := by
      cases known : v.station with
      | none =>
        rw [Dev.endTransaction_of_broadcast known]
        simp only [reported, known]
      | some st =>
        rw [Dev.endTransaction_of_station known]
        simp only [reported, known]
        rfl
    have isEntry : reported.transEntry r v f = entry := by
      cases known : v.station with
      | none =>
        simp only [Dev.transEntry, entry, known]
        rfl
      | some st =>
        have stands : reported = left.setStation b.channel st (ended st) := by simp only [reported, known]
        have presence : (reported.station b.channel st).presence = (ended st).presence := by
          rw [stands, Dev.station_setStation_self]
        simp only [Dev.transEntry, entry, known]
        rw [presence]
        rfl
    have finish (held : v.head.reservation = .held) : d.assignFinal r f = reported.handOver b.cring r entry :=
      (ends held).trans ((congrArg (fun e : Dev => e.handOver b.cring r (e.transEntry r v f)) isReported).trans
        (congrArg (reported.handOver b.cring r) isEntry))
    obtain ⟨⟨_, _, part, _⟩, ⟨_, crings, _⟩, -⟩ := left.endTransaction_keeps v f
    rw [isReported] at part crings
    have sameRing : reported.cring b.cring = ring := congrArg (fun crings : Vector Cring 4 => crings[b.cring]) crings
    have sameHalt : reported.halted = d.halted := congrArg (fun p => p == PartState.halted) part
    refine ⟨unheld, fun held active => (finish held).trans ?_, fun held faulted => (finish held).trans ?_⟩
    · rw [Dev.handOver_of_active (sameRing ▸ active), Dev.postCring, Dev.modCring, sameRing, sameHalt]
    · rw [Dev.handOver_of_faulted (sameRing ▸ faulted), sameRing]
      rfl

end Sys2Proof.Machine
end

section
/-! PROOFS. The arbitration (R87, R90 to R93): what a candidate is, what the choice over the rings in round-robin order finds, and
what an occasion does with it. -/

namespace Sys2Proof.Machine

/-! ## Candidates (R87, R91, R92) -/

theorem Head.waiting_iff (h : Head) :
    h.waiting = true ↔ h.reservation = .held ∧ (h.state = .staged ∨ h.state = .pendingRetry) ∧ h.final = none := by
  simp [Head.waiting, and_assoc]

theorem StationRec.admits_iff (x : StationRec) (probe : Bool) :
    x.admits probe = true ↔ x.hold = none ∧ (x.presence = .quarantined → probe = true) := by
  rw [StationRec.admits, Bool.and_eq_true, Option.isNone_iff_eq_none, Bool.or_eq_true, bne_iff_ne, ← Decidable.imp_iff_not_or]

theorem neededTime_pos (c : Channel) (x : TransRecord) (w : Option Nat) : 0 < neededTime c x w := by
  have frame : 0 < (Config.commandBits + 8 * x.bytesOut) * c.rate.bit :=
    Nat.mul_pos (Nat.add_pos_left (by decide) _) c.rate.bit_pos
  unfold neededTime
  omega

theorem Dev.fits_iff (d : Dev) (ch : ChanId) (w : WindowRec) (t : TransRecord) : d.fits ch w t = true ↔
    d.now + neededTime (d.chan ch) t ((stationId t.station).map fun st => (d.station ch st).respWindow) ≤ w.ends := by
  have positive := neededTime_pos (d.chan ch) t ((stationId t.station).map fun st => (d.station ch st).respWindow)
  unfold Dev.fits
  dsimp only
  rw [decide_eq_true_iff]
  have shift (a n e : Nat) (pos : 0 < a) : a ≤ e - n ↔ n + a ≤ e := by omega
  exact shift _ _ _ positive

theorem Dev.candidate_iff (d : Dev) (ch : ChanId) (w : WindowRec) (r : RingId) : d.candidate ch w r = true ↔
    ∃ v, d.headOf r = some v ∧ ((d.ring r).state = .active ∨ (d.ring r).state = .faulted) ∧ v.head.waiting = true ∧
      v.staged.validity = .valid ∧ v.binding.channel = ch ∧ w.kind = .transact ∧ w.classes.getLsbD v.binding.cls.val = true ∧
      (∀ st, v.station = some st → (d.station ch st).admits v.staged.record.probe = true) ∧
      v.staged.record.passed (d.chan ch).cycle = false ∧ d.fits ch w v.staged.record = true := by
  cases head : d.headOf r with
  | none => simp [Dev.candidate, head]
  | some v =>
    have unfolds : d.candidate ch w r = true ↔ (((d.ring r).state = .active ∨ (d.ring r).state = .faulted) ∧ v.head.waiting = true ∧
        v.staged.validity = .valid) ∧ v.binding.channel = ch ∧ w.kind = .transact ∧ w.classes.getLsbD v.binding.cls.val = true ∧
        (∀ st, v.station = some st → (d.station ch st).admits v.staged.record.probe = true) ∧
        v.staged.record.passed (d.chan ch).cycle = false ∧ d.fits ch w v.staged.record = true := by
      cases known : v.station <;> simp [Dev.candidate, Dev.eligible, head, known, and_assoc]
    rw [unfolds]
    simp [and_assoc]

/-! ## The choice (R93) -/

/-- One step of the choice: the ring of a higher class, among the candidates, replaces the best so far. -/
def Dev.better (d : Dev) (ch : ChanId) (w : WindowRec) (best : Option RingId) (r : RingId) : Option RingId :=
  if d.candidate ch w r then
    match best with
    | none => some r
    | some b => if d.classOf b < d.classOf r then some r else best
  else best

theorem Dev.select_eq (d : Dev) (ch : ChanId) (w : WindowRec) :
    d.select ch w = (roundRobin (d.chan ch).lastGranted).foldl (d.better ch w) none := rfl

section Better

variable {d : Dev} {ch : ChanId} {w : WindowRec} {r : RingId}

theorem Dev.better_of_not (out : d.candidate ch w r = false) (best : Option RingId) : d.better ch w best r = best :=
  if_neg (ne_true_of_eq_false out)

theorem Dev.better_of_first (meets : d.candidate ch w r = true) : d.better ch w none r = some r := if_pos meets

theorem Dev.better_of_some (meets : d.candidate ch w r = true) (b : RingId) :
    d.better ch w (some b) r = if d.classOf b < d.classOf r then some r else some b := if_pos meets

end Better

/-- What the choice has found among the rings considered: none when none is a candidate, or the first of the highest class. -/
def Dev.Chosen (d : Dev) (ch : ChanId) (w : WindowRec) (rings : List RingId) : Option RingId → Prop
  | none => ∀ k ∈ rings, d.candidate ch w k = false
  | some r => d.candidate ch w r = true ∧ ∃ before behind, rings = before ++ r :: behind ∧
      (∀ k ∈ before, d.candidate ch w k = true → d.classOf k < d.classOf r) ∧
      ∀ k ∈ behind, d.candidate ch w k = true → d.classOf k ≤ d.classOf r

theorem Dev.chosen_foldl (d : Dev) (ch : ChanId) (w : WindowRec) (rings : List RingId) :
    d.Chosen ch w rings (rings.foldl (d.better ch w) none) := by
  induction rings using List.reverseRecOn with
  | nil => exact fun k mem => absurd mem List.not_mem_nil
  | append_singleton rings x ih =>
    rw [List.foldl_append, List.foldl_cons, List.foldl_nil]
    generalize rings.foldl (d.better ch w) none = best at ih
    cases meets : d.candidate ch w x with
    | false =>
      rw [Dev.better_of_not meets]
      cases best with
      | none =>
        intro k mem
        obtain old | new := List.mem_append.1 mem
        · exact ih k old
        · exact List.mem_singleton.1 new ▸ meets
      | some b =>
        obtain ⟨isOne, before, behind, rfl, higher, least⟩ := ih
        refine ⟨isOne, before, behind ++ [x], by simp, higher, fun k mem fits => ?_⟩
        obtain old | new := List.mem_append.1 mem
        · exact least k old fits
        · rw [List.mem_singleton.1 new, meets] at fits
          contradiction
    | true =>
      cases best with
      | none =>
        rw [Dev.better_of_first meets]
        refine ⟨meets, rings, [], rfl, fun k mem fits => ?_, fun k mem => absurd mem List.not_mem_nil⟩
        rw [ih k mem] at fits
        contradiction
      | some b =>
        obtain ⟨isOne, before, behind, rfl, higher, least⟩ := ih
        rw [Dev.better_of_some meets]
        split
        · next above =>
          refine ⟨meets, before ++ b :: behind, [], rfl, fun k mem fits => ?_, fun k mem => absurd mem List.not_mem_nil⟩
          obtain old | new := List.mem_append.1 mem
          · exact (higher k old fits).trans above
          · obtain rfl | later := List.mem_cons.1 new
            · exact above
            · exact (least k later fits).trans_lt above
        · next below =>
          refine ⟨isOne, before, behind ++ [x], by simp, higher, fun k mem fits => ?_⟩
          obtain old | new := List.mem_append.1 mem
          · exact least k old fits
          · exact List.mem_singleton.1 new ▸ Nat.not_lt.1 below

/-- Round robin takes each ring, in the order of its steps from the last granted (R93). -/
theorem mem_roundRobin (last r : RingId) : r ∈ roundRobin last := by
  revert last r
  decide

theorem roundRobin_sorted (last : RingId) :
    (roundRobin last).Pairwise fun a b => (a.val + 7 - last.val) % 8 < (b.val + 7 - last.val) % 8 := by
  revert last
  decide

/-! ## ArbitrationPicks -/

theorem Dev.arbitrate_of_idle {d : Dev} {ch : ChanId} {w : WindowRec} (idle : (d.chan ch).state = .idle)
    (window : (d.chan ch).window = some w) (transact : w.kind = .transact) (up : d.port.part ≠ .halted) :
    let checked := d.checkDeadlines ch
    (checked.select ch w = none → d.arbitrate ch = checked) ∧
    (∀ r, checked.select ch w = some r → d.arbitrate ch = checked.setChan ch { checked.chan ch with
      state := .quietWait, selection := some (.transaction r (checked.headSlot r)), since := checked.now }) := by
  intro checked
  have awake : ¬ d.halted = true := mt (Dev.halted_iff d).1 up
  unfold Dev.arbitrate
  rw [idle, window]
  dsimp only
  rw [if_pos ⟨transact, awake⟩]
  refine ⟨fun none => ?_, fun r chosen => ?_⟩
  · rw [show (d.checkDeadlines ch).select ch w = Option.none from none]
  · rw [show (d.checkDeadlines ch).select ch w = some r from chosen]
    rfl

theorem Dev.boundTo_iff {d : Dev} {r : RingId} {v : HeadView} (head : d.headOf r = some v) (ch : ChanId) :
    d.boundTo r ch = true ↔ v.binding.channel = ch := by
  obtain ⟨binding, -, -⟩ := Dev.headOf_eq_some_iff.1 head
  rw [Dev.boundTo, binding, beq_iff_eq]

/-- Settles O53: the conditions of a candidate, the best of the sorted round robin, and what an occasion makes of it. -/
theorem arbitrationPicks : Obligations.ArbitrationPicks := by
  intro d ch w steps
  refine ⟨fun r => ?candidate, ?none, fun r chosen => ?some, fun idle => ?out, fun window => ?occasion⟩
  case candidate =>
    rw [d.candidate_iff ch w r]
    refine exists_congr fun v => and_congr_right fun head => ?_
    dsimp only
    rw [Head.waiting_iff, ← Bool.not_eq_true, TransRecord.passed_iff, Dev.fits_iff]
    have admitted : (∀ st, v.station = some st → (d.station ch st).admits v.staged.record.probe = true) ↔
        ∀ x, v.station.map (d.station ch) = some x → x.hold = none ∧ (x.presence = .quarantined → v.staged.record.probe = true) := by
      cases known : v.station <;> simp [StationRec.admits_iff]
    have window : (stationId v.staged.record.station).map (fun st => (d.station ch st).respWindow) =
        (v.station.map (d.station ch)).map StationRec.respWindow := by
      rw [Option.map_map]
      rfl
    rw [admitted, window]
    tauto
  case none =>
    have found := d.chosen_foldl ch w (roundRobin (d.chan ch).lastGranted)
    rw [← Dev.select_eq] at found
    constructor
    · intro none r
      rw [none] at found
      exact found r (mem_roundRobin ..)
    · intro out
      cases chosen : d.select ch w with
      | none => rfl
      | some r =>
        rw [chosen] at found
        exact nomatch (out r).symm.trans found.1
  case some =>
    have found := d.chosen_foldl ch w (roundRobin (d.chan ch).lastGranted)
    rw [← Dev.select_eq, chosen] at found
    obtain ⟨meets, before, behind, order, higher, least⟩ := found
    refine ⟨meets, fun k fits => ?_⟩
    have sorted := order ▸ roundRobin_sorted (d.chan ch).lastGranted
    obtain ⟨-, later, -⟩ := List.pairwise_append.1 sorted
    have mem := order ▸ mem_roundRobin (d.chan ch).lastGranted k
    obtain early | now | late : k ∈ before ∨ k = r ∨ k ∈ behind := by simpa using mem
    · exact .inl (higher k early fits)
    · exact .inr (now ▸ ⟨rfl, le_rfl⟩)
    · exact (least k late fits).lt_or_eq.imp id fun same => ⟨same, (List.rel_of_pairwise_cons later late).le⟩
  case out =>
    unfold Dev.arbitrate
    split
    case h_1 waits window =>
      obtain busy | absent | halted := idle
      · exact absurd waits busy
      · exact nomatch absent.symm.trans window
      · exact if_neg fun ⟨_, up⟩ => up (d.halted_iff.2 halted)
    case h_2 => rfl
  case occasion =>
    refine ⟨fun other => ?_, fun isIdle transact up => ?_⟩
    · unfold Dev.arbitrate
      split
      case h_1 _ window' =>
        cases window.symm.trans window'
        exact if_neg fun ⟨transact, _⟩ => other transact
      case h_2 => rfl
    · intro checked due
      have now : checked.now = d.now := (d.checkDeadlines_keeps ch).1.1
      have occasion := Dev.arbitrate_of_idle isIdle window transact up
      refine ⟨fun clear => ?_, fun none => ?_, fun r v chosen head => ?_⟩
      · refine List.foldl_fixed' (fun r => ?_) allRings
        split
        · next bound =>
          cases head : d.headOf r with
          | none => rw [Dev.checkDeadline, head]
          | some v =>
            refine (Dev.checkDeadline_of_head head).trans (if_neg fun ⟨live, waits, past⟩ => ?_)
            have own := (Dev.boundTo_iff head ch).1 bound
            obtain ⟨flag, before⟩ := (TransRecord.passed_iff ..).1 past
            exact clear r ⟨v, head, own, by simpa using live, waits, flag, own ▸ before⟩
        · rfl
      · exact occasion.1 none
      · obtain ⟨-, ⟨rest, staging⟩, -⟩ := Dev.headOf_eq_some_iff.1 head
        have slot : checked.headSlot r = v.staged.slot := by rw [Dev.headSlot, staging]
        rw [occasion.2 r chosen, now, slot]

end Sys2Proof.Machine
end

section
/-! PROOFS. The grant that reaches a head (R76, R88, R89). -/

namespace Sys2Proof.Machine

/-- The grant on its way to a ring's head, spent (R76). -/
def Dev.spent (d : Dev) (r : RingId) : Dev := { d with grants := d.grants.eraseP fun g => g.ring == r }

section Grant

variable {d : Dev} {r : RingId} {v : HeadView}

theorem Dev.takeGrant_of_none (none : d.grants.find? (fun g => g.ring == r) = none) : d.takeGrant r = d := by
  rw [Dev.takeGrant, none]

theorem Dev.takeGrant_of_void (found : d.grants.find? (fun g => g.ring == r) = some { ring := r, void := true }) :
    d.takeGrant r = d.spent r := by
  rw [Dev.takeGrant, found]
  rfl

/-- A grant that is taken up (R76): the head is HELD, and then completed or judged. -/
theorem Dev.takeGrant_of_head (found : d.grants.find? (fun g => g.ring == r) = some { ring := r, void := false })
    (head : d.headOf r = some v) :
    let held := (d.spent r).setRing r { d.ring r with head := some { v.head with reservation := .held } }
    (∀ n, d.flushNoted r = some n → d.takeGrant r =
      held.assignFinal r { status := .flushed, cycle := (d.chan v.binding.channel).cycle, window := 0 }) ∧
    (d.flushNoted r = none → v.staged.validity ≠ .valid → d.takeGrant r = held.assignFinal r (held.finalOf v .invalid)) ∧
    (∀ f, d.flushNoted r = none → v.staged.validity = .valid → v.head.final = some f → d.takeGrant r = held.assignFinal r f) ∧
    (d.flushNoted r = none → v.staged.validity = .valid → v.head.final = none → d.takeGrant r =
      ((if held.eligible r then held.arbitrate v.binding.channel else held).checkDeadline r).checkQuarantine r) := by
  intro held
  have spentHead : (d.spent r).headOf r = some v := head
  have noted : held.flushNoted r = d.flushNoted r := rfl
  have marks : ((d.spent r).modHead r fun h => { h with reservation := .held }) = held := Dev.modHead_of_head spentHead _
  unfold Dev.takeGrant
  rw [found]
  dsimp only
  rw [show ({ d with grants := d.grants.eraseP fun g => g.ring == r } : Dev) = d.spent r from rfl, spentHead]
  dsimp only
  rw [marks, noted]
  refine ⟨fun n flush => if_pos (by simp [flush]), fun calm invalid => (if_neg (by simp [calm])).trans (if_pos invalid),
    fun f calm valid final => ?_, fun calm valid final => ?_⟩
  · rw [if_neg (by simp [calm]), if_neg (not_not_intro valid), final]
  · rw [if_neg (by simp [calm]), if_neg (not_not_intro valid), final]

end Grant

theorem Dev.checkQuarantine_of_awake {d : Dev} {r : RingId} {v : HeadView} (head : d.headOf r = some v)
    (awake : ∀ st, v.station = some st → (d.station v.binding.channel st).presence ≠ .quarantined) : d.checkQuarantine r = d := by
  rw [Dev.checkQuarantine, head]
  dsimp only
  split
  · rfl
  · next st known => exact if_neg fun ⟨quarantined, _⟩ => awake st known quarantined

/-- Settles O21: the grant that is none, void, or taken up, and the judgements of a head that it leaves waiting. -/
theorem grantReachesTheHead : Obligations.GrantReachesTheHead := by
  intro t r s v d spent held chan
  have becomes {e : Dev} (same : d.takeGrant r = e) : Becomes (.reservationGrant t r) s e := Becomes.of_exec rfl same
  refine ⟨fun none => ?_, fun void => becomes (Dev.takeGrant_of_void void), fun found head => ?_⟩
  · refine becomes (Dev.takeGrant_of_none (List.find?_eq_none.2 fun g mem => ?_))
    simpa using none g mem
  · obtain ⟨flushed, invalid, final, waits⟩ := Dev.takeGrant_of_head (d := d) found head
    refine ⟨fun n flush => becomes (flushed n flush), fun calm bad => becomes (invalid calm bad),
      fun f calm valid done => becomes (final f calm valid done), fun calm valid open_ busy ahead awake => becomes ?_⟩
    refine (waits calm valid open_).trans ?_
    obtain ⟨binding, staging, -⟩ := Dev.headOf_eq_some_iff.1 head
    have heldHead : held.headOf r = some { v with head := { v.head with reservation := .held } } := by
      refine Dev.headOf_eq_some_iff.2 ?_
      rw [Dev.ring_setRing_self]
      exact ⟨binding, staging, rfl⟩
    have unarbitrated : (if held.eligible r = true then held.arbitrate v.binding.channel else held) = held := by
      rw [Dev.arbitrate_of_busy (d := held) busy, ite_self]
    refine (congrArg (fun e : Dev => (e.checkDeadline r).checkQuarantine r) unarbitrated).trans ?_
    rw [Dev.checkDeadline_of_head heldHead, if_neg ?_]
    · exact Dev.checkQuarantine_of_awake heldHead awake
    · rintro ⟨-, -, past⟩
      exact nomatch ahead.symm.trans past

end Sys2Proof.Machine
end

section
/-! PROOFS. CHANNEL_RESET (R28, R46): the stations it frees stay free, and its channel ends in OFF. -/

namespace Sys2Proof.Machine

/-! ## ChannelResetAbandons -/

/-- The station has neither a hold nor the attempt-in-flight mark. -/
structure StationRec.Free (x : StationRec) : Prop where
  hold : x.hold = none
  mark : x.mark = false

theorem StationRec.free_channelReset (x : StationRec) : x.channelReset.Free := by
  unfold StationRec.channelReset
  split
  · exact ⟨rfl, rfl⟩
  · next clear =>
    obtain ⟨hold, mark⟩ := not_or.1 clear
    exact ⟨by simpa using hold, by simpa using mark⟩

theorem StationRec.Free.ends {x y : StationRec} (free : x.Free) (ends : x.Ends y) : y.Free := by
  rw [ends.rest]
  exact ⟨free.hold, free.mark⟩

theorem StationRec.Free.set {x : StationRec} (free : x.Free) (setting : StationSetting) : (x.set setting).Free :=
  ⟨rfl, free.mark⟩

theorem StationRec.Free.release {x : StationRec} (free : x.Free) : x.release.Free := by
  rw [StationRec.release_eq]
  exact ⟨rfl, free.mark⟩

/-- The channels at most wait, the engine holds the same record in the same phase, and free stations of the channel stay free. -/
structure Dev.KeepsFree (ch : ChanId) (d e : Dev) : Prop where
  same : Same d e
  phase : SamePhase d e
  wait : d.ChannelsWait e
  free : ∀ st, (d.station ch st).Free → (e.station ch st).Free

section KeepsFree

variable {ch : ChanId}

theorem Dev.KeepsFree.refl (d : Dev) : d.KeepsFree ch d :=
  ⟨by simp [Same], by simp [SamePhase], .of_channels rfl, fun _ => id⟩

theorem Dev.KeepsFree.trans {a b c : Dev} (h : a.KeepsFree ch b) (k : b.KeepsFree ch c) : a.KeepsFree ch c where
  same := by
    obtain ⟨now, alert, part, cause, enable, start⟩ := h.same
    obtain ⟨now', alert', part', cause', enable', start'⟩ := k.same
    exact ⟨now'.trans now, alert'.trans alert, part'.trans part, cause'.trans cause, enable'.trans enable, start'.trans start⟩
  phase := by
    obtain ⟨phase, inHand, post, read⟩ := h.phase
    obtain ⟨phase', inHand', post', read'⟩ := k.phase
    exact ⟨phase'.trans phase, inHand'.trans inHand, post'.trans post, read'.trans read⟩
  wait := h.wait.trans k.wait
  free st := k.free st ∘ h.free st

theorem Dev.KeepsFree.foldl {α : Type} {f : Dev → α → Dev} (keeps : ∀ (d : Dev) (x : α), d.KeepsFree ch (f d x)) (xs : List α)
    (d : Dev) : d.KeepsFree ch (xs.foldl f d) := by
  induction xs generalizing d with
  | nil => exact .refl d
  | cons x xs ih => exact (keeps d x).trans (ih _)

theorem Dev.Calm.keepsFree {d e : Dev} (calm : d.Calm e) : d.KeepsFree ch e where
  same := calm.same
  phase := by
    rw [SamePhase, calm.answers.engine]
    exact ⟨rfl, rfl, rfl, rfl⟩
  wait := calm.wait
  free st free := free.ends (calm.stations ch st)

theorem Dev.completeParked_keepsFree (d : Dev) (p : Command → Bool) (status : ControlStatus) (n : Nat) :
    d.KeepsFree ch (d.completeParked p status n) := by
  obtain ⟨same, ⟨-, stations⟩, -, -, phase⟩ := d.completeParked_keeps p status n
  exact ⟨same, phase, d.completeParked_wait p status n, fun st free => Dev.station_congr stations ch st ▸ free⟩

theorem Dev.updateStation_keepsFree (d : Dev) (st : StationId) {f : StationRec → StationRec}
    (frees : ∀ x : StationRec, x.Free → (f x).Free) : d.KeepsFree ch (d.updateStation ch st f) := by
  obtain ⟨same, phase⟩ := d.updateStation_keeps ch st f
  refine ⟨same, phase, d.updateStation_wait ch st f, fun k free => ?_⟩
  refine StationRec.Free.ends ?_ ((d.updateStation_calm ch st f).stations ch k)
  obtain rfl | other := eq_or_ne k st
  · rw [Dev.station_setStation_self]
    exact frees _ free
  · rwa [Dev.station_setStation_ne _ _ (.inr other)]

/-- A parked command applied to a free station, and answered, leaves it free (R31). -/
theorem Dev.applyParkedStation_keepsFree (d : Dev) (st : StationId) : d.KeepsFree ch (d.applyParkedStation ch st) := by
  refine Dev.KeepsFree.foldl (fun d k => ?_) _ d
  split
  · split
    · split
      · exact (d.updateStation_keepsFree st fun x free => free.set _).trans (Dev.completeParked_keepsFree ..)
      · exact .refl d
    · split
      · exact (d.updateStation_keepsFree st fun x free => free.release).trans (Dev.completeParked_keepsFree ..)
      · exact .refl d
    · exact .refl d
  · exact .refl d

end KeepsFree

theorem Dev.foldl_channelReset (xs : List StationId) (d : Dev) (ch : ChanId) :
    let e := xs.foldl (fun d st => d.setStation ch st (d.station ch st).channelReset) d
    e = { d with stations := e.stations } ∧ ∀ st, st ∈ xs ∨ (d.station ch st).Free → (e.station ch st).Free := by
  induction xs generalizing d with
  | nil => exact ⟨rfl, by simp⟩
  | cons x xs ih =>
    obtain ⟨rest, frees⟩ := ih (d.setStation ch x (d.station ch x).channelReset)
    refine ⟨rest, fun st reset => frees st ?_⟩
    obtain rfl | other := eq_or_ne st x
    · right
      rw [Dev.station_setStation_self]
      exact StationRec.free_channelReset _
    · rw [Dev.station_setStation_ne _ _ (.inr other)]
      exact reset.imp_left fun mem => (List.mem_cons.1 mem).resolve_left other

/-- CHANNEL_RESET changes the records alone, and leaves every station of its channel free (R28). -/
theorem Dev.resetStations_eq (d : Dev) (ch : ChanId) : d.resetStations ch = { d with stations := (d.resetStations ch).stations } ∧
    ∀ st, ((d.resetStations ch).station ch st).Free :=
  have ⟨rest, frees⟩ := Dev.foldl_channelReset allStations d ch
  ⟨rest, fun st => frees st (.inl (mem_allStations st))⟩

/-- A channel that CHANNEL_RESET has abandoned and then takes to OFF: of the rest only the two moments may differ (R46). -/
theorem Channel.toOff_of_abandoned {c x : Channel} {now : Moment} (waits : (c.abandon now).Waits x) :
    x.toOff = { c.toOff with lastQuiet := x.lastQuiet, since := x.since } := by
  rw [waits.rest]
  unfold Channel.abandon
  dsimp only
  split <;> rfl

/-- CHANNEL_RESET as two halves: what leads to the channel in OFF, and the answer. -/
theorem Dev.resetChannel_eq (d : Dev) (ch : ChanId) : ∃ e, ((d.modChan ch (Channel.abandon d.now)).resetStations ch).KeepsFree ch e ∧
    d.resetChannel ch = (e.setChan ch (e.chan ch).toOff).completeInHand .done := by
  have applied (e : Dev) (x : Option StationId) :
      e.KeepsFree ch (match x with | some st => e.applyParkedStation ch st | none => e) := by
    cases x with
    | none => exact .refl e
    | some st => exact e.applyParkedStation_keepsFree st
  have aborted (e : Dev) (x : Option RingId) : e.KeepsFree ch (match x with | some r => e.abortHead r | none => e) := by
    cases x with
    | none => exact .refl e
    | some r => exact (e.abortHead_calm r).keepsFree
  exact ⟨_, (((applied _ _).trans (aborted _ _)).trans (Dev.completeParked_keepsFree ..)).trans (Dev.completeParked_keepsFree ..), rfl⟩

/-- Settles O46: the channel abandons, its stations are freed and stay free, and it is taken to OFF before the answer. -/
theorem channelResetAbandons : Obligations.ChannelResetAbandons := by
  intro t s record ch taking
  let d := s.dev.tick t
  obtain ⟨rest, frees⟩ := (d.modChan ch (Channel.abandon d.now)).resetStations_eq ch
  obtain ⟨e, keeps, resets⟩ := d.resetChannel_eq ch
  generalize (d.modChan ch (Channel.abandon d.now)).resetStations ch = a at rest frees keeps
  have abandoned : a.chan ch = (d.chan ch).abandon d.now := by
    rw [rest]
    exact Dev.chan_setChan_self ..
  have engine : a.engine = d.engine := by rw [rest]; rfl
  obtain ⟨now, alert, -⟩ := keeps.same
  obtain ⟨-, inHand, -⟩ := keeps.phase
  have hand : (e.setChan ch (e.chan ch).toOff).engine.inHand = some record :=
    inHand.trans ((congrArg Engine.inHand engine).trans (taking.tick t).inHand)
  have off := Channel.toOff_of_abandoned (abandoned ▸ keeps.wait.waits ch)
  have runs : Becomes (.channelReset t) s ((e.setChan ch (e.chan ch).toOff).answered record .done 0 []) := by
    refine Becomes.of_exec (d := d.takeChannelReset) rfl ?_
    rw [Dev.takeChannelReset, acting_of_taking (taking.tick t)]
    exact resets.trans (Dev.answered_eq hand _)
  obtain ⟨u, isU⟩ : ∃ u, u = (e.setChan ch (e.chan ch).toOff).answered record .done 0 [] := ⟨_, rfl⟩
  have own : u.chan ch = (e.chan ch).toOff := by
    rw [isU]
    exact Dev.chan_setChan_self ..
  refine ⟨{ s with dev := u }, isU ▸ runs, rfl, rfl, ?_, ?_, ?_, ?_, fun st => ?_⟩
  · rw [isU]
    exact now.trans (by rw [rest]; rfl)
  · rw [isU]
    rfl
  · rw [isU]
    exact alert.trans (by rw [rest]; rfl)
  · rw [show ({ s with dev := u } : State).dev.chan ch = _ from own.trans off]
    exact ⟨rfl, rfl, rfl, rfl, rfl, rfl, rfl, rfl, rfl, rfl, rfl, rfl, rfl⟩
  · have freed : (u.station ch st).Free := by
      rw [isU]
      exact keeps.free st (frees st)
    exact ⟨freed.hold, freed.mark⟩

end Sys2Proof.Machine
end

section
/-! PROOFS. CHANNEL_CONFIG (R34) and CHANNEL_ENABLE (R44, R52, R53), and the CONTROL entry of a record field by field
(R153). -/

namespace Sys2Proof.Machine

/-! ## The CONTROL entry of a record (R153) -/

theorem bind_station_eq_some_iff {named : Option Command} {ch : ChanId} {st : StationId} :
    named.bind Command.station? = some (ch, st) ↔
      (∃ setting, named = some (.stationSet ch st setting)) ∨ named = some (.stationRead ch st) ∨
      named = some (.stationRelease ch st) := by
  cases named with
  | none => simp
  | some c => cases c <;> simp [Command.station?]

/-- The commands whose entries carry the channel's cycle number. -/
theorem bind_channel_eq_some_iff {named : Option Command} {ch : ChanId} :
    named.bind Command.channel? = some ch ↔
      (∃ rate gap quiet chatter, named = some (.channelConfig ch rate gap quiet chatter)) ∨
      (∃ start, named = some (.channelEnable ch start)) ∨ named = some (.channelDisable ch) ∨
      named = some (.channelReset ch) ∨ (∃ start ws, named = some (.scheduleWrite ch start ws)) ∨
      (∃ length switch, named = some (.scheduleCommit ch length switch)) ∨ named = some (.scheduleCancel ch) ∨
      (∃ mode, named = some (.filterMode ch mode)) ∨ (∃ clear, named = some (.countersRead ch clear)) ∨
      ∃ st, (∃ setting, named = some (.stationSet ch st setting)) ∨ named = some (.stationRead ch st) ∨
        named = some (.stationRelease ch st) := by
  cases named with
  | none => simp
  | some c => cases c <;> simp [Command.channel?]

section ControlEntry

variable {d : Dev} {record : Record} {ch : ChanId} {st : StationId} (status : ControlStatus) (detail : Nat) (payload : List Byte)

theorem Dev.controlEntry_of_station (on : (commandOf record).bind Command.station? = some (ch, st)) :
    (d.controlEntry record status detail payload).station = st.val + 1 ∧
    (d.controlEntry record status detail payload).presence = if status = .done then (d.station ch st).presence.code else 0 := by
  simp only [Dev.controlEntry, on, stationAddress, and_self]

theorem Dev.controlEntry_of_no_station (on : (commandOf record).bind Command.station? = none) :
    (d.controlEntry record status detail payload).station = 0 ∧
    (d.controlEntry record status detail payload).presence = 0 := by
  simp only [Dev.controlEntry, on, and_self]

theorem Dev.controlEntry_of_channel (on : (commandOf record).bind Command.channel? = some ch) :
    (d.controlEntry record status detail payload).cycle = (d.chan ch).cycle ∧
    (d.controlEntry record status detail payload).window = d.windowIndex ch := by
  simp only [Dev.controlEntry, on, and_self]

theorem Dev.controlEntry_of_no_channel (on : (commandOf record).bind Command.channel? = none) :
    (d.controlEntry record status detail payload).cycle = 0 ∧ (d.controlEntry record status detail payload).window = 0 := by
  simp only [Dev.controlEntry, on, and_self]

end ControlEntry

theorem Dev.windowIndex_of_off {d : Dev} {ch : ChanId} (off : (d.chan ch).state = .off) : d.windowIndex ch = 0 := if_pos off

theorem Dev.windowIndex_of_window {d : Dev} {ch : ChanId} {w : WindowRec} (on : (d.chan ch).state ≠ .off)
    (window : (d.chan ch).window = some w) : d.windowIndex ch = w.index := by
  rw [Dev.windowIndex, if_neg on, window]

theorem Dev.windowIndex_of_no_window {d : Dev} {ch : ChanId} (window : (d.chan ch).window = none) : d.windowIndex ch = 0 := by
  rw [Dev.windowIndex, window]
  exact ite_self 0

/-! ## CHANNEL_CONFIG (R34) -/

theorem Dev.takeChannelConfig_eq {d : Dev} {record : Record} {ch : ChanId} {rate : BusRate} {gap quiet chatter : Nat}
    (taking : d.Taking record (.channelConfig ch rate gap quiet chatter)) :
    d.takeChannelConfig = if (d.chan ch).state = .off then
        (d.setChan ch { d.chan ch with rate := rate, gap := gap, quietLimit := quiet, chatterLimit := chatter }).answered record .done 0 []
      else d.answered record .badState 0 [] := by
  have hand : (d.setChan ch { d.chan ch with
    rate := rate, gap := gap, quietLimit := quiet, chatterLimit := chatter }).engine.inHand = some record := taking.inHand
  rw [Dev.takeChannelConfig, acting_of_taking taking, ← Dev.answered_eq taking.inHand, ← Dev.answered_eq hand]
  rfl

/-! ## Steps 1 and 2 of CHANNEL_ENABLE (R44) -/

theorem Dev.updateStation_stops (d : Dev) (ch : ChanId) (st : StationId) (f : StationRec → StationRec) :
    d.AnswersStops (d.updateStation ch st f) :=
  (Dev.AnswersStops.of_engine (d := d) (e := d.setStation ch st (f (d.station ch st))) rfl).trans (d.updateStation_calm ch st f).stops

theorem Dev.hold_dropHold (d : Dev) (ch : ChanId) {st k : StationId} (free : k = st ∨ (d.station ch k).hold = none) :
    ((d.updateStation ch st StationRec.dropHold).station ch k).hold = none := by
  have ends := (d.updateStation_calm ch st StationRec.dropHold).stations ch k
  obtain rfl | other := eq_or_ne k st
  · rw [Dev.station_setStation_self] at ends
    exact ends.hold
  · rw [Dev.station_setStation_ne _ _ (.inr other)] at ends
    exact ends.hold.trans (free.resolve_left other)

theorem Dev.foldl_dropHold (xs : List StationId) (d : Dev) (ch : ChanId) :
    let e := xs.foldl (fun d st => d.updateStation ch st StationRec.dropHold) d
    d.ChannelsWait e ∧ d.AnswersStops e ∧ ∀ k, k ∈ xs ∨ (d.station ch k).hold = none → (e.station ch k).hold = none := by
  induction xs generalizing d with
  | nil => exact ⟨.of_channels rfl, .of_engine rfl, by simp⟩
  | cons st xs ih =>
    obtain ⟨wait, stops, free⟩ := ih (d.updateStation ch st StationRec.dropHold)
    refine ⟨(d.updateStation_wait ..).trans wait, (d.updateStation_stops ch st _).trans stops, fun k dropped => free k ?_⟩
    obtain (own | later) | before := dropped.imp_left List.mem_cons.1
    · exact .inr (d.hold_dropHold ch (.inl own))
    · exact .inl later
    · exact .inr (d.hold_dropHold ch (.inr before))

theorem Command.not_isRingStop_of_isCommit {ch : ChanId} {c : Command} (r : RingId) (commit : c.isCommit ch = true) :
    c.isRingStop r = false := by
  unfold Command.isCommit at commit
  split at commit
  · rfl
  · contradiction

theorem Dev.dueCommit_congr {d e : Dev} {ch : ChanId} (stops : d.AnswersStops e) (cycle : (e.chan ch).cycle = (d.chan ch).cycle) :
    e.dueCommit ch = d.dueCommit ch := by
  rw [Dev.dueCommit, Dev.dueCommit, cycle, stops _ fun c r => Command.not_isRingStop_of_isCommit r]

/-- The part with the number of the first cycle of a channel taken, and its holds removed when the command gives the number
(R44 steps 1 and 2). -/
def Dev.numbered (d : Dev) (ch : ChanId) (start : Option Cycle) : Dev :=
  let e := d.setChan ch { d.chan ch with cycle := start.getD ((d.chan ch).cycle + 1) }
  if start.isSome then e.dropHolds ch else e

theorem Dev.numbered_keeps (d : Dev) (ch : ChanId) (start : Option Cycle) :
    Same d (d.numbered ch start) ∧ SamePhase d (d.numbered ch start) := by
  unfold Dev.numbered
  dsimp only
  split <;> simp [Same, SamePhase]

/-- What the numbering leaves of its channel and of the commit parked on it; with a number given, no hold. -/
theorem Dev.numbered_leaves (d : Dev) (ch : ChanId) (start : Option Cycle) :
    let e := d.setChan ch { d.chan ch with cycle := start.getD ((d.chan ch).cycle + 1) }
    e.ChannelsWait (d.numbered ch start) ∧ e.AnswersStops (d.numbered ch start) ∧
      (start.isSome → ∀ st, ((d.numbered ch start).station ch st).hold = none) := by
  unfold Dev.numbered
  dsimp only
  split
  · obtain ⟨wait, stops, free⟩ :=
      (d.setChan ch { d.chan ch with cycle := start.getD ((d.chan ch).cycle + 1) }).foldl_dropHold allStations ch
    exact ⟨wait, stops, fun _ st => free st (.inl (mem_allStations st))⟩
  · next none => exact ⟨.of_channels rfl, .of_engine rfl, fun given => absurd given none⟩

/-! ## The first cycle of CHANNEL_ENABLE (R44, R53) -/

/-- What a channel does for itself after its cycle has begun. -/
theorem Dev.CycleBegun.acts {d u e : Dev} {ch : ChanId} {t : Moment} (begun : d.CycleBegun ch t u) (acts : u.Acts e ch)
    (part : u.halted = d.halted) : d.CycleBegun ch t e where
  setup := begun.setup.trans acts.cycle.toSameSetup
  start := acts.cycle.start.trans begun.start
  length := by rw [acts.cycle.length, begun.length, acts.cycle.operational]
  kept none := acts.cycle.operational.trans (begun.kept none)
  swapped length late due := acts.cycle.operational.trans (begun.swapped length late due)
  window up := by
    rw [acts.window (part.trans up), begun.window up, Channel.windowAt_congr acts.cycle.cycle acts.cycle.operational]
  ages st := (begun.ages st).trans (acts.stations ch st).ages
  holds st := (acts.stations ch st).hold.trans (begun.holds st)
  meets r := (begun.meets r).settles (acts.rings r)

theorem Dev.state_enterIdle_of_halted {d : Dev} {ch : ChanId} (halted : d.halted = true) : ((d.enterIdle ch).chan ch).state = .off := by
  rw [Dev.enterIdle, if_pos halted, Dev.modChan, Dev.chan_setChan_self]
  rfl

theorem Dev.state_enterIdle_of_not_halted {d : Dev} {ch : ChanId} (up : d.halted = false) :
    ((d.enterIdle ch).chan ch).state ∈ [.idle, .quietWait] := by
  rw [Dev.enterIdle, if_neg (ne_true_of_eq_false up)]
  have waits := (Dev.actOnWindow_calm (d.modChan ch Channel.toIdle) ch).channels ch
  have idle : ((d.modChan ch Channel.toIdle).chan ch).state = .idle := by
    rw [Dev.modChan, Dev.chan_setChan_self]
    rfl
  obtain same | ⟨-, selected⟩ := waits.state
  · rw [same, idle]
    exact List.mem_cons_self
  · rw [selected]
    exact List.mem_cons_of_mem _ List.mem_cons_self

/-- A window index of 0 at the start of a list, or with none to start (R54). -/
theorem Dev.windowIndex_of_plan {d : Dev} {ch : ChanId} {t : Moment}
    (planned : (d.chan ch).window.map WindowRec.plan = ((d.chan ch).windowAt 0 t).map WindowRec.plan) : d.windowIndex ch = 0 := by
  cases list : (d.chan ch).operational with
  | nil =>
    have none : (d.chan ch).windowAt 0 t = none := by
      rw [Channel.windowAt, list]
      rfl
    rw [none, Option.map_none, Option.map_eq_none_iff] at planned
    exact Dev.windowIndex_of_no_window planned
  | cons w ws =>
    obtain ⟨x, window, -, index, -⟩ := Channel.window_of_plan list planned
    by_cases off : (d.chan ch).state = .off
    · exact Dev.windowIndex_of_off off
    · exact (Dev.windowIndex_of_window off window).trans index

/-- The part with the first cycle of a channel begun, the channel out of OFF (R44 steps 1 to 4). -/
def Dev.enabled (d : Dev) (ch : ChanId) (start : Option Cycle) : Dev := ((d.numbered ch start).cycleSteps ch d.now).enterIdle ch

theorem Dev.enabled_keeps (d : Dev) (ch : ChanId) (start : Option Cycle) :
    Same d (d.enabled ch start) ∧ SamePhase d (d.enabled ch start) := by
  obtain ⟨numbered, phase⟩ := d.numbered_keeps ch start
  obtain ⟨same, phases⟩ := (d.numbered ch start).cycleSteps_keeps ch d.now
  obtain ⟨same', phases'⟩ := ((d.numbered ch start).cycleSteps ch d.now).enterIdle_keeps ch
  simp_all [Dev.enabled, Same, SamePhase]

theorem Dev.enabled_begun (d : Dev) (ch : ChanId) (start : Option Cycle) :
    (d.numbered ch start).CycleBegun ch d.now (d.enabled ch start) := by
  obtain ⟨halted, -⟩ := part_of_same ((d.numbered ch start).cycleSteps_keeps ch d.now).1
  exact ((d.numbered ch start).cycleSteps_begun ch d.now).acts (Dev.enterIdle_acts ..) halted

theorem Dev.takeChannelEnable_eq {d : Dev} {record : Record} {ch : ChanId} {start : Option Cycle}
    (taking : d.Taking record (.channelEnable ch start)) :
    d.takeChannelEnable = if (d.chan ch).state = .off ∧ (d.chan ch).operational ≠ [] then
      (d.enabled ch start).answered record .done 0 [] else d.answered record .badState 0 [] := by
  have hand : (d.enabled ch start).engine.inHand = some record := by
    obtain ⟨-, -, inHand, -⟩ := d.enabled_keeps ch start
    exact inHand.trans taking.inHand
  have now : (d.numbered ch start).now = d.now := (d.numbered_keeps ch start).1.1
  rw [Dev.takeChannelEnable, acting_of_taking taking, ← Dev.answered_eq taking.inHand, ← Dev.answered_eq hand, Dev.enabled, ← now]
  rfl

/-- The channel enabled is IDLE or waits for quiet with a selection; while the part is HALTED it is OFF again (log entry 10). -/
theorem Dev.state_enabled (d : Dev) (ch : ChanId) (start : Option Cycle) :
    (d.port.part ≠ .halted → ((d.enabled ch start).chan ch).state ∈ [.idle, .quietWait]) ∧
    (d.port.part = .halted → ((d.enabled ch start).chan ch).state = .off) := by
  obtain ⟨numbered, -⟩ := part_of_same (d.numbered_keeps ch start).1
  obtain ⟨begun, -⟩ := part_of_same ((d.numbered ch start).cycleSteps_keeps ch d.now).1
  have same := begun.trans numbered
  exact ⟨fun up => Dev.state_enterIdle_of_not_halted (same.trans (d.not_halted_iff.2 up)),
    fun halted => Dev.state_enterIdle_of_halted (same.trans (d.halted_iff.2 halted))⟩

theorem Dev.windowIndex_enabled (d : Dev) (ch : ChanId) (start : Option Cycle) : (d.enabled ch start).windowIndex ch = 0 := by
  obtain ⟨numbered, -⟩ := part_of_same (d.numbered_keeps ch start).1
  by_cases halted : d.port.part = .halted
  · exact Dev.windowIndex_of_off ((d.state_enabled ch start).2 halted)
  · exact Dev.windowIndex_of_plan ((d.enabled_begun ch start).window (numbered.trans (d.not_halted_iff.2 halted)))

/-- The entry of a CHANNEL_ENABLE answered DONE: the number of the first cycle, and window index 0 (R153). -/
theorem Dev.controlEntry_enable {e : Dev} {record : Record} {ch : ChanId} {start : Option Cycle}
    (named : commandOf record = some (.channelEnable ch start)) (window : e.windowIndex ch = 0) :
    e.controlEntry record .done 0 [] = { kind := .control, source := 8, tag := recordTag record, cycle := (e.chan ch).cycle } := by
  simp only [Dev.controlEntry, named, recordCode_of_commandOf named, Option.bind_some, Command.channel?, Command.station?, window]
  rfl

theorem Dev.posting_answered (d : Dev) (record : Record) (status : ControlStatus) :
    (d.answered record status 0 []).ccr.slots.posting.getLast? =
      some { entry := d.controlEntry record status 0 [], source := .inHand } := by
  rw [Dev.answered, Slots.post_eq]
  exact List.getLast?_concat ..

/-- Settles O44: each command by its branches, the enable's first cycle by the steps of a cycle start, the entry by the command
that its record names. -/
theorem configAndEnable : Obligations.ConfigAndEnable := by
  refine ⟨fun t s record ch => ?commands, fun d record status detail payload => ?entry⟩
  case commands =>
    intro d c
    refine ⟨fun rate gap quiet chatter taking => ?config, fun start taking => ?enable⟩
    case config =>
      have outcome {e : Dev} (same : d.takeChannelConfig = e) : Becomes (.channelConfig t) s e := Becomes.of_exec rfl same
      have eq := Dev.takeChannelConfig_eq (taking.tick t)
      exact ⟨fun off => outcome (eq.trans (if_pos off)), fun on => outcome (eq.trans (if_neg on))⟩
    case enable =>
      intro number due
      have outcome {e : Dev} (same : d.takeChannelEnable = e) : Becomes (.channelEnable t) s e := Becomes.of_exec rfl same
      have eq := Dev.takeChannelEnable_eq (taking.tick t)
      refine ⟨fun off list => ?starts, fun other => ?refused⟩
      case refused =>
        refine outcome (eq.trans (if_neg ?_))
        rintro ⟨off, list⟩
        exact other.elim (· off) list
      case starts =>
        have answers := outcome (eq.trans (if_pos ⟨off, list⟩))
        obtain ⟨⟨-, alert, -⟩, -⟩ := d.enabled_keeps ch start
        obtain ⟨⟨-, -, part, -⟩, -⟩ := d.numbered_keeps ch start
        obtain ⟨wait, stops, dropped⟩ := d.numbered_leaves ch start
        have begun := d.enabled_begun ch start
        have state : (s.dev.port.part ≠ .halted → ((d.enabled ch start).chan ch).state ∈ [.idle, .quietWait]) ∧
            (s.dev.port.part = .halted → ((d.enabled ch start).chan ch).state = .off) := d.state_enabled ch start
        have zero := d.windowIndex_enabled ch start
        generalize d.enabled ch start = e at answers alert begun state zero
        generalize d.numbered ch start = n at part wait stops dropped begun
        obtain ⟨running, halted⟩ := state
        have channel := Dev.chan_setChan_self d ch { c with cycle := number }
        have waits : Channel.Waits { c with cycle := number } (n.chan ch) := channel ▸ wait.waits ch
        have setup : Channel.SameSetup { c with cycle := number } (e.chan ch) := waits.sameCycle.toSameSetup.trans begun.setup
        have sameDue : n.dueCommit ch = due := Dev.dueCommit_congr stops (wait.waits ch).cycle
        have slots : (n.chan ch).slots = c.slots := by rw [waits.rest]
        refine ⟨_, answers, rfl, rfl, rfl, ?_, running, halted, setup.cycle, begun.start,
          fun none => (begun.kept (sameDue.trans none)).trans waits.sameCycle.operational, fun length late commit => ?_,
          fun w ws up list => ?_, setup.rate, setup.gap, setup.counters, fun given st => ?_, alert⟩
        · refine (e.posting_answered record .done).trans ?_
          rw [Dev.controlEntry_enable (commandOf_of_taking taking) zero, setup.cycle]
        · rw [← slots]
          exact begun.swapped length late (sameDue.trans commit)
        · have planned := begun.window (n.not_halted_iff.2 (part ▸ up))
          obtain ⟨x, window, cycle, rest⟩ := Channel.window_of_plan list planned
          exact ⟨x, window, cycle.trans setup.cycle, rest⟩
        · refine (begun.holds st).trans ?_
          rw [dropped given st, Option.filter_none]
  case entry =>
    intro e named onStation onChannel
    refine ⟨rfl, rfl, rfl, by cases status <;> rfl, rfl, rfl, rfl, rfl, rfl, fun ch st on => ?_, fun off => ?_, fun ch on => ?_,
      fun off => ?_⟩
    · exact Dev.controlEntry_of_station status detail payload (bind_station_eq_some_iff.2 on)
    · refine Dev.controlEntry_of_no_station status detail payload (Option.eq_none_iff_forall_ne_some.2 ?_)
      exact fun ⟨ch, st⟩ on => off ch st (bind_station_eq_some_iff.1 on)
    · obtain ⟨cycle, window⟩ := Dev.controlEntry_of_channel (d := d) status detail payload (bind_channel_eq_some_iff.2 on)
      exact ⟨cycle, fun isOff => window.trans (Dev.windowIndex_of_off isOff),
        fun w on current => window.trans (Dev.windowIndex_of_window on current)⟩
    · refine Dev.controlEntry_of_no_channel status detail payload (Option.eq_none_iff_forall_ne_some.2 ?_)
      exact fun ch on => off ch (bind_channel_eq_some_iff.1 on)

end Sys2Proof.Machine
end
